-- ==== Sys2Proof/Word.lean ====
section
/-! DEFINITION. The number types of the frames of the SV-420: bytes, and the two- and four-byte numbers that
frames carry (R186). Counts, limits and counters inside the part are natural numbers with explicit bounds. -/

namespace Sys2Proof

/-- One byte of a frame (R186). -/
abbrev Byte := BitVec 8

/-- A two-byte number of a frame (R186). -/
abbrev U16 := BitVec 16

/-- A four-byte number of a frame (R186). -/
abbrev U32 := BitVec 32

/-- A server link, 0 to 7 (the links table of 00_scope). -/
abbrev Link := Fin 8

/-- A set of the tags 0 to 7: one byte, with bit t set for tag t (R187). -/
abbrev TagSet := BitVec 8

end Sys2Proof
end

