-- ==== Sys2Proof/Syntax.lean ====
section
/-! DEFINITION. The commands of the SV-420: one constructor of `Instr` per row of spec/opcode_table.json, with the
operands the spec gives the row. A request row carries the sequence number and the fields of a good frame; a field
that is a choice among named values is an `Option`, `none` standing for a coded value outside the list (R186). -/

namespace Sys2Proof

/-- The class of an owner (R1). -/
inductive OwnerClass
  | student
  | staff
  | project
  | service
  deriving DecidableEq, Repr

/-- The intent of a PRESERVE (R73). -/
inductive Intent
  | write
  | free
  deriving DecidableEq, Repr

/-- The kind of a PRESERVE (R73). -/
inductive PreserveKind
  | occupied
  | fresh
  deriving DecidableEq, Repr

/-- The run mode of the duplication schedule (R124). -/
inductive RunMode
  | repeating
  | single
  deriving DecidableEq, Repr

/-- The urgency of a restore (R102). -/
inductive Urgency
  | urgent
  | ordinary
  deriving DecidableEq, Repr

/-- The mode of a READ OWNER (R12, R13). -/
inductive ReadMode
  | exact
  | next
  deriving DecidableEq, Repr

/-- The reason a FAULT reply of the array carries (R89). -/
inductive ArrayReason
  | media
  | range
  | refused
  deriving DecidableEq, Repr

/-- The body of a CLAIM (R188). -/
structure ClaimReq where
  owner : U32
  volume : Byte
  tags : TagSet
  partialOk : Bool
  count : U32
  deriving DecidableEq, Repr

/-- The body of a SETTLE (R188). -/
structure SettleReq where
  ticket : U32
  used : U32
  deriving DecidableEq, Repr

/-- The body of a RELEASE (R188). -/
structure ReleaseReq where
  owner : U32
  count : U32
  deriving DecidableEq, Repr

/-- The body of a PRESERVE (R188). -/
structure PreserveReq where
  volume : Byte
  intent : Option Intent
  kind : Option PreserveKind
  count : Byte
  first : U32
  owner : U32
  deriving DecidableEq, Repr

/-- The fields of a WRITE OWNER (R10). -/
structure WriteOwnerReq where
  owner : U32
  cls : Option OwnerClass
  hard : U32
  soft : U32
  share : U32
  overdraft : U32
  tags : TagSet
  deriving DecidableEq, Repr

/-- The fields of a WRITE POLICY (R7). A volume match of `none` is ANY. -/
structure WritePolicyReq where
  index : U32
  pattern : BitVec 24
  mask : BitVec 24
  volume : Option U32
  tagCondition : Option TagSet
  cls : Option OwnerClass
  hard : U32
  soft : U32
  share : U32
  overdraft : U32
  tags : TagSet
  graceMinutes : U32
  deriving DecidableEq, Repr

/-- The optional fields of a SET POOL (R67). -/
structure SetPoolReq where
  size : Option U32
  lowMark : Option U32
  rescue : Option U32
  deriving DecidableEq, Repr

/-- The mode field of a REQUEST RESTORE (R103). -/
inductive RestoreModeReq
  | inPlace
  | side (volume : U32) (first : U32)
  deriving DecidableEq, Repr

/-- The fields of a REQUEST RESTORE (R103). -/
structure RestoreReq where
  volume : U32
  epoch : U32
  first : U32
  count : U32
  mode : Option RestoreModeReq
  owner : U32
  tags : TagSet
  urgency : Option Urgency
  deriving DecidableEq, Repr

/-- The fields of a WRITE SCHEDULE, two bytes each (R122, R123). -/
structure ScheduleReq where
  cycle : U16
  point : U16
  window : U16
  length : U16
  reload : U16
  deriving DecidableEq, Repr

/-- The optional fields of a SET TIMERS (R184). -/
structure TimersReq where
  claimLifetime : Option U32
  storeTimeout : Option U32
  commitTimeout : Option U32
  silenceTime : Option U32
  stallLimit : Option U32
  faultThreshold : Option U32
  deriving DecidableEq, Repr

/-- A request as a server link's intake keeps it (R160). -/
inductive ServerRequest
  | claim (r : ClaimReq)
  | settle (r : SettleReq)
  | release (r : ReleaseReq)
  | preserve (r : PreserveReq)
  deriving DecidableEq, Repr

/-- A request as the management request queue keeps it (R172). -/
inductive MgmtRequest
  | writeOwner (r : WriteOwnerReq)
  | readOwner (mode : Option ReadMode) (owner : U32)
  | removeOwner (owner : U32)
  | setUsage (owner : U32) (held : U32)
  | writePolicy (r : WritePolicyReq)
  | erasePolicy (index : U32)
  | defineVolume (volume : U32) (link : U32)
  | removeVolume (volume : U32)
  | takeSnapshot (volume : U32) (label : Option (List Byte))
  | retireSnapshot (volume : U32) (epoch : U32)
  | listSnapshots (volume : U32)
  | lookupBlock (volume : U32) (block : U32) (epoch : U32)
  | setPool (r : SetPoolReq)
  | clearQuarantine
  | requestRestore (r : RestoreReq)
  | cancelRestore (id : U32)
  | readRestore (id : U32)
  | writeSchedule (r : ScheduleReq)
  | startSchedule (mode : Option RunMode)
  | stopSchedule
  | clearCycle
  | writeRoster (volume : U32) (keep : U32)
  | eraseRoster (volume : U32)
  | setBase (volume : U32) (epoch : U32)
  | readSchedule
  | readDuplication
  | openService
  | pauseService
  | saveTables
  | loadTables
  | restart
  | setTimers (r : TimersReq)
  | setClock (minute : U32)
  | readStatus
  deriving DecidableEq, Repr

/-- The commands: one constructor per row of spec/opcode_table.json, in the table's order. -/
inductive Instr
  /-- POWER_ON (R175). -/
  | powerOn
  /-- RESET_LINE (R175). -/
  | resetLine
  /-- SECONDS_TICK (R183). -/
  | secondsTick
  /-- MGMT_FRAME_ARRIVAL (R172): the bytes that arrive on the management link. -/
  | mgmtFrameArrival (bytes : List Byte)
  /-- MGMT_SENDER_FREE (R174). -/
  | mgmtSenderFree
  /-- WRITE_OWNER (R10). -/
  | writeOwner (seq : U16) (r : WriteOwnerReq)
  /-- READ_OWNER_EXACT (R12). -/
  | readOwnerExact (seq : U16) (owner : U32)
  /-- READ_OWNER_NEXT (R13). -/
  | readOwnerNext (seq : U16) (owner : U32)
  /-- REMOVE_OWNER (R14). -/
  | removeOwner (seq : U16) (owner : U32)
  /-- SET_USAGE (R15). -/
  | setUsage (seq : U16) (owner : U32) (held : U32)
  /-- WRITE_POLICY (R7). -/
  | writePolicy (seq : U16) (r : WritePolicyReq)
  /-- ERASE_POLICY (R8). -/
  | erasePolicy (seq : U16) (index : U32)
  /-- DEFINE_VOLUME (R43). -/
  | defineVolume (seq : U16) (volume : U32) (link : U32)
  /-- REMOVE_VOLUME (R44). -/
  | removeVolume (seq : U16) (volume : U32)
  /-- TAKE_SNAPSHOT (R52). -/
  | takeSnapshot (seq : U16) (volume : U32) (label : Option (List Byte))
  /-- RETIRE_SNAPSHOT (R55). -/
  | retireSnapshot (seq : U16) (volume : U32) (epoch : U32)
  /-- LIST_SNAPSHOTS (R60). -/
  | listSnapshots (seq : U16) (volume : U32)
  /-- LOOKUP_BLOCK (R51). -/
  | lookupBlock (seq : U16) (volume : U32) (block : U32) (epoch : U32)
  /-- SET_POOL (R67). -/
  | setPool (seq : U16) (r : SetPoolReq)
  /-- CLEAR_QUARANTINE (R71). -/
  | clearQuarantine (seq : U16)
  /-- REQUEST_RESTORE (R103). -/
  | requestRestore (seq : U16) (r : RestoreReq)
  /-- CANCEL_RESTORE (R117). -/
  | cancelRestore (seq : U16) (id : U32)
  /-- READ_RESTORE (R118). -/
  | readRestore (seq : U16) (id : U32)
  /-- WRITE_SCHEDULE (R123). -/
  | writeSchedule (seq : U16) (r : ScheduleReq)
  /-- START_SCHEDULE (R126). -/
  | startSchedule (seq : U16) (mode : Option RunMode)
  /-- STOP_SCHEDULE (R127). -/
  | stopSchedule (seq : U16)
  /-- CLEAR_CYCLE (R128). -/
  | clearCycle (seq : U16)
  /-- WRITE_ROSTER (R130). -/
  | writeRoster (seq : U16) (volume : U32) (keep : U32)
  /-- ERASE_ROSTER (R130). -/
  | eraseRoster (seq : U16) (volume : U32)
  /-- SET_BASE (R131). -/
  | setBase (seq : U16) (volume : U32) (epoch : U32)
  /-- READ_SCHEDULE (R137). -/
  | readSchedule (seq : U16)
  /-- READ_DUPLICATION (R158). -/
  | readDuplication (seq : U16)
  /-- OPEN_SERVICE (R176). -/
  | openService (seq : U16)
  /-- PAUSE_SERVICE (R177). -/
  | pauseService (seq : U16)
  /-- SAVE_TABLES (R178). -/
  | saveTables (seq : U16)
  /-- LOAD_TABLES (R180). -/
  | loadTables (seq : U16)
  /-- RESTART (R182). -/
  | restart (seq : U16)
  /-- SET_TIMERS (R184). -/
  | setTimers (seq : U16) (r : TimersReq)
  /-- SET_CLOCK (R183). -/
  | setClock (seq : U16) (minute : U32)
  /-- READ_STATUS (R185). -/
  | readStatus (seq : U16)
  /-- SERVER_FRAME_ARRIVAL (R161): the bytes that arrive on a server link. -/
  | serverFrameArrival (link : Link) (bytes : List Byte)
  /-- CLAIM (R30). -/
  | claim (link : Link) (seq : U16) (r : ClaimReq)
  /-- SETTLE (R33). -/
  | settle (link : Link) (seq : U16) (r : SettleReq)
  /-- RELEASE (R35). -/
  | release (link : Link) (seq : U16) (r : ReleaseReq)
  /-- PRESERVE (R73). -/
  | preserve (link : Link) (seq : U16) (r : PreserveReq)
  /-- STORE_DONE (R89): the tag the reply names and the sequence number it carries. -/
  | storeDone (tag : Byte) (seq : U16)
  /-- STORE_DATA (R89): the tag, the sequence number and the content. -/
  | storeData (tag : Byte) (seq : U16) (content : List Byte)
  /-- STORE_FAULT (R89): the tag, the sequence number and the array's reason. -/
  | storeFault (tag : Byte) (seq : U16) (reason : ArrayReason)
  /-- STORE_FRAME_DISCARD (R89): the bytes of the frame. -/
  | storeFrameDiscard (bytes : List Byte)
  /-- STORE_TIMEOUT (R91): the tag whose phase runs out. -/
  | storeTimeout (tag : Fin 32)
  /-- ACCEPT (R141). -/
  | accept (pass : U32)
  /-- COMMIT (R148). -/
  | commit (pass : U32) (consignment : U32)
  /-- REJECT (R149). -/
  | reject (pass : U32) (consignment : U32) (reason : Byte)
  /-- SEALED (R151). -/
  | sealed (pass : U32)
  /-- PROBE_ANSWER (R157): the sequence number the answer carries. -/
  | probeAnswer (seq : U16)
  /-- OFFSITE_FRAME_DISCARD (R156): the bytes of the frame. -/
  | offsiteFrameDiscard (bytes : List Byte)
  /-- CONSIGNMENT_DEADLINE_EXPIRY (R149). -/
  | consignmentDeadlineExpiry (consignment : U32)
  /-- ANSWER_DEADLINE_EXPIRY (R141). -/
  | answerDeadlineExpiry
  /-- SILENCE_TIMEOUT (R156). -/
  | silenceTimeout
  /-- PROBE_TIMER (R157). -/
  | probeTimer
  /-- PACER_OVERFLOW (R146). -/
  | pacerOverflow
  /-- CLAIM_LAPSE (R32): the ticket of the claim. -/
  | claimLapse (ticket : U32)
  /-- GRACE_EXPIRY (R25): the owner whose deadline is due. -/
  | graceExpiry (owner : U32)
  /-- RESCUE_EXPIRY (R70). -/
  | rescueExpiry
  /-- STALL_EXPIRY (R114): the restore whose stall runs out. -/
  | stallExpiry (id : U16)
  /-- CYCLE_ADVANCE (R125). -/
  | cycleAdvance
  /-- MERGE_STEP (R57): the volume whose merge walk takes its next entry. -/
  | mergeStep (volume : Fin 48)
  /-- GO_LIVE (R53): the volume whose OPENING snapshot is tested. -/
  | goLive (volume : Fin 48)
  deriving DecidableEq, Repr

end Sys2Proof
end

