-- ==== Sys2Proof/Config.lean ====
section
/-! DEFINITION. What the spec fixes as capacities, and the free values: opaque constants that nothing can evaluate,
for the values and orders the spec leaves open. -/

namespace Sys2Proof.Config

/-- The quota arithmetic's largest value (R19). -/
def maxWord : Nat := 4294967295

/-- Owner records the table holds (R1). -/
def maxOwners : Nat := 16384

/-- Owner numbers end here (R1). -/
def maxOwnerNumber : Nat := 16777215

/-- Open claims the list holds (R27). -/
def maxClaims : Nat := 4096

/-- Open SERVER claims a link may hold (R29). -/
def maxLinkClaims : Nat := 512

/-- Entries the preservation index holds, and slots the pool may have (R64, R66). -/
def maxEntries : Nat := 8388608

/-- Below this index free count INDEX_LOW is raised (R65). -/
def indexLowMark : Nat := 524288

/-- Snapshot records not GONE the catalogue holds (R46). -/
def maxSnapshots : Nat := 768

/-- Snapshot records not GONE a volume holds (R46). -/
def maxVolumeSnapshots : Nat := 24

/-- Requests a waiting list holds (R54). -/
def maxWaiting : Nat := 64

/-- The highest volume number (R42). -/
def maxVolume : Nat := 47

/-- Grace minutes of an owner whose origin is WRITTEN (R2). -/
def defaultGraceMinutes : Nat := 10080

/-- The longest grace (R3, R25). -/
def maxGraceMinutes : Nat := 43200

/-- Bytes of a block (00_scope, Block). -/
def blockBytes : Nat := 4096

/-- FREE VALUE. The number that stands in field `index` of the body of a management request of kind `code`: the spec
gives no byte layout for these bodies (R187 gives their lengths only). -/
opaque field : (code : Nat) → (body : List Byte) → (index : Nat) → Nat

/-- FREE VALUE. Whether an optional field of a management request body is present; no layout is given. -/
opaque present : (code : Nat) → (body : List Byte) → (index : Nat) → Bool

/-- FREE VALUE. The label characters of a TAKE SNAPSHOT body; no layout is given. -/
opaque chars : (code : Nat) → (body : List Byte) → List Byte

/-- FREE VALUE. Which of the named choices a field of a management request body codes, `none` for a value outside
the list; for the choices whose codes the spec does not list. -/
opaque choice : (code : Nat) → (body : List Byte) → (index : Nat) → Option Nat

/-- FREE VALUE. Which of `among` candidates is taken first, where the spec says that either may be (R78, R133); `turn` counts
the choices met. -/
opaque pick : (turn : Nat) → (among : Nat) → Nat

/-- FREE VALUE. The number that stands for a name in a management reply or notice, where the spec lists no code. -/
opaque unlisted : (name : String) → Nat

/-- FREE VALUE. How the characters of a label stand in a LIST SNAPSHOTS reply; the spec gives only four-byte numbers. -/
opaque labelWords : (label : List Byte) → List Nat

end Sys2Proof.Config
end

