-- ==== Sys2Proof/Decode.lean ====
section
/-! DEFINITION. The frames as bytes: byte order, the frame check, the receiver that finds frames in the bytes of a link
(R186), the body lengths of the kinds (R187), the bodies of the requests and replies that arrive (R188, R189), and
the decoder of table words, which are none: no row of spec/opcode_table.json gives bits. -/

namespace Sys2Proof

/-! ### Numbers and the frame check -/

/-- The number that bytes carry, most significant byte first (R186). -/
def be (bs : List Byte) : Nat := bs.foldl (fun n b => n * 256 + b.toNat) 0

/-- The last `k` bytes of a number, most significant first (R186). -/
def toBe : Nat → Nat → List Byte
  | 0, _ => []
  | k + 1, n => BitVec.ofNat 8 (n / 256 ^ k) :: toBe k n

/-- The number in `len` bytes at an offset of a body. -/
def at' (body : List Byte) (off len : Nat) : Nat := be ((body.drop off).take len)

/-- One byte of a body. -/
def byteAt (body : List Byte) (off : Nat) : Byte := body.getD off 0

/-- A four-byte field of a body. -/
def word (body : List Byte) (off : Nat) : U32 := BitVec.ofNat 32 (at' body off 4)

/-- One bit through the frame-check register: generator x^16 + x^12 + x^5 + 1 (R186). -/
def crcBit (r : U16) (bit : Bool) : U16 :=
  if r.getLsbD 15 != bit then (r <<< 1) ^^^ 0x1021#16 else r <<< 1

/-- One byte through the register, most significant bit first (R186). -/
def crcByte (r : U16) (b : Byte) : U16 :=
  [7, 6, 5, 4, 3, 2, 1, 0].foldl (fun r i => crcBit r (b.getLsbD i)) r

/-- The frame check of bytes: the register starts at 65,535 and the result is not inverted (R186). -/
def crc (bs : List Byte) : U16 := bs.foldl crcByte 0xFFFF#16

/-- The start marker (R186). -/
def startMarker : Byte := 165#8

/-- The longest body, in units of eight bytes (R186). -/
def maxUnits : Nat := 32834

/-! ### The receiver -/

/-- What a receiver makes of a start marker and what follows it (R186). -/
inductive Received
  | lengthFault
  | checkFault
  | frame (kind : Byte) (seq : U16) (body : List Byte)
  deriving DecidableEq, Repr

/-- A frame's bytes: marker, length, kind, sequence number, body padded to eight bytes, frame check (R186). -/
def frameBytes (kind : Byte) (seq : U16) (body : List Byte) : List Byte :=
  let units := max 1 ((body.length + 7) / 8)
  let padded := body ++ List.replicate (8 * units - body.length) 0
  let checked := toBe 2 units ++ [kind] ++ toBe 2 seq.toNat ++ padded
  startMarker :: checked ++ toBe 2 (crc checked).toNat

/-- The frame at the head of the bytes that follow a start marker, with the bytes at which the search resumes; `none`
where the bytes end before the frame does (R186). -/
def receiveOne (rest : List Byte) : Option (Received × List Byte) :=
  if rest.length < 2 then none else
  let units := at' rest 0 2
  if units = 0 ∨ units > maxUnits then some (.lengthFault, rest) else
  let covered := 5 + 8 * units
  if rest.length < covered + 2 then none else
  let tail := rest.drop (covered + 2)
  if (crc (rest.take covered)).toNat = at' rest covered 2 then
    some (.frame (byteAt rest 2) (BitVec.ofNat 16 (at' rest 3 2)) ((rest.drop 5).take (8 * units)), tail)
  else some (.checkFault, tail)

/-- The frames a receiver finds in `bytes`, in order, looking for start markers, and the frame that has begun and not
ended, from its start marker on (R186); the fuel is the number of bytes. -/
def receiveFuel : Nat → List Byte → List Received × List Byte
  | 0, _ => ([], [])
  | _ + 1, [] => ([], [])
  | n + 1, b :: rest =>
    if b = startMarker then
      match receiveOne rest with
      | none => ([], b :: rest)
      | some (r, tail) => (r :: (receiveFuel n tail).1, (receiveFuel n tail).2)
    else receiveFuel n rest

/-- The frames a receiver finds in the bytes of a link, those of a frame begun before in front (R186). -/
def receive (bytes : List Byte) : List Received := (receiveFuel bytes.length bytes).1

/-- The bytes of a frame that has begun and not ended: the receiver takes the rest of it from what follows (R186). -/
def begunFrame (bytes : List Byte) : List Byte := (receiveFuel bytes.length bytes).2

/-! ### Server-link requests (R188) -/

/-- The body length in units of a server-link request kind, `none` for any other kind (R187, R188). -/
def serverUnits (kind : Byte) : Option Nat :=
  if kind = 1 then some 2 else if kind = 2 then some 1 else if kind = 3 then some 1 else if kind = 4 then some 2
  else none

/-- The request in the body of a server-link frame of the right length (R188). Bits 1 to 7 of the options of a CLAIM, and the
bytes the rule calls zero, are not looked at (DESIGN CHOICE, log entry 57). -/
def serverRequestOf (kind : Byte) (body : List Byte) : Option ServerRequest :=
  if kind = 1 then
    some (.claim { owner := word body 0, volume := byteAt body 4, tags := byteAt body 5,
                   partialOk := (byteAt body 6).getLsbD 0, count := word body 8 })
  else if kind = 2 then some (.settle { ticket := word body 0, used := word body 4 })
  else if kind = 3 then some (.release { owner := word body 0, count := word body 4 })
  else if kind = 4 then
    some (.preserve { volume := byteAt body 0
                      intent := if byteAt body 1 = 0 then some .write else if byteAt body 1 = 1 then some .free else none
                      kind := if byteAt body 2 = 0 then some .occupied else if byteAt body 2 = 1 then some .fresh else none
                      count := byteAt body 3, first := word body 4, owner := word body 8 })
  else none

/-- The kind code of a server-link request (R187). -/
def serverCode : ServerRequest → Byte
  | .claim _ => 1
  | .settle _ => 2
  | .release _ => 3
  | .preserve _ => 4

/-- The body of a server-link request (R188). A choice outside its list is written 255. -/
def serverBody : ServerRequest → List Byte
  | .claim r => toBe 4 r.owner.toNat ++ [r.volume, r.tags, if r.partialOk then 1 else 0, 0] ++ toBe 4 r.count.toNat
      ++ toBe 4 0
  | .settle r => toBe 4 r.ticket.toNat ++ toBe 4 r.used.toNat
  | .release r => toBe 4 r.owner.toNat ++ toBe 4 r.count.toNat
  | .preserve r =>
    [r.volume, match r.intent with | some .write => 0 | some .free => 1 | none => 255,
     match r.kind with | some .occupied => 0 | some .fresh => 1 | none => 255, r.count]
      ++ toBe 4 r.first.toNat ++ toBe 4 r.owner.toNat ++ toBe 4 0

/-! ### Management requests (R187) -/

/-- The kind code of a management request (R187). -/
def mgmtCode : MgmtRequest → Nat
  | .writeOwner _ => 16
  | .readOwner _ _ => 17
  | .removeOwner _ => 18
  | .setUsage _ _ => 19
  | .writePolicy _ => 20
  | .erasePolicy _ => 21
  | .defineVolume _ _ => 22
  | .removeVolume _ => 23
  | .takeSnapshot _ _ => 24
  | .retireSnapshot _ _ => 25
  | .listSnapshots _ => 26
  | .lookupBlock _ _ _ => 27
  | .setPool _ => 28
  | .clearQuarantine => 29
  | .requestRestore _ => 30
  | .cancelRestore _ => 33
  | .readRestore _ => 34
  | .writeSchedule _ => 35
  | .startSchedule _ => 36
  | .stopSchedule => 37
  | .clearCycle => 38
  | .writeRoster _ _ => 39
  | .eraseRoster _ => 40
  | .setBase _ _ => 41
  | .readSchedule => 42
  | .readDuplication => 43
  | .openService => 44
  | .pauseService => 45
  | .saveTables => 46
  | .loadTables => 47
  | .restart => 48
  | .setTimers _ => 49
  | .setClock _ => 50
  | .readStatus => 51

/-- The body length in units of a management request kind, `none` for any other kind (R187). -/
def mgmtUnits (kind : Byte) : Option Nat :=
  let k := kind.toNat
  if k < 16 ∨ k > 51 ∨ k = 31 ∨ k = 32 then none
  else if k = 16 then some 3
  else if k = 20 ∨ k = 24 ∨ k = 30 then some 4
  else if k = 27 ∨ k = 28 ∨ k = 35 ∨ k = 49 then some 2
  else some 1

/-- A numeric field of a management body (its place is not given: `Config.field`). -/
def mgmtNumber (code : Nat) (body : List Byte) (i : Nat) : U32 := BitVec.ofNat 32 (Config.field code body i)

/-- A two-byte field of a management body. -/
def mgmtShort (code : Nat) (body : List Byte) (i : Nat) : U16 := BitVec.ofNat 16 (Config.field code body i)

/-- An optional numeric field of a management body. -/
def mgmtOptional (code : Nat) (body : List Byte) (i : Nat) : Option U32 :=
  if Config.present code body i then some (mgmtNumber code body i) else none

/-- The class that a code names (R187). -/
def classOf (n : Nat) : Option OwnerClass :=
  if n = 0 then some .student else if n = 1 then some .staff else if n = 2 then some .project
  else if n = 3 then some .service else none

/-- A tag set field of a management body: one byte (R187). -/
def mgmtTags (code : Nat) (body : List Byte) (i : Nat) : TagSet := BitVec.ofNat 8 (Config.field code body i)

/-- The request in the body of a management frame of the right length. The places of the fields are free values. -/
def mgmtRequestOf (code : Nat) (body : List Byte) : Option MgmtRequest :=
  let n := mgmtNumber code body
  if code = 16 then some (.writeOwner { owner := n 0, cls := classOf (Config.field code body 1), hard := n 2, soft := n 3,
                                        share := n 4, overdraft := n 5, tags := mgmtTags code body 6 })
  else if code = 17 then
    some (.readOwner (match Config.choice code body 0 with | some 0 => some .exact | some 1 => some .next | _ => none) (n 1))
  else if code = 18 then some (.removeOwner (n 0))
  else if code = 19 then some (.setUsage (n 0) (n 1))
  else if code = 20 then
    some (.writePolicy { index := n 0, pattern := BitVec.ofNat 24 (Config.field code body 1),
                         mask := BitVec.ofNat 24 (Config.field code body 2), volume := mgmtOptional code body 3,
                         tagCondition := if Config.present code body 4 then some (mgmtTags code body 4) else none,
                         cls := classOf (Config.field code body 5), hard := n 6, soft := n 7, share := n 8,
                         overdraft := n 9, tags := mgmtTags code body 10, graceMinutes := n 11 })
  else if code = 21 then some (.erasePolicy (n 0))
  else if code = 22 then some (.defineVolume (n 0) (n 1))
  else if code = 23 then some (.removeVolume (n 0))
  else if code = 24 then
    some (.takeSnapshot (n 0) (if Config.present code body 1 then some (Config.chars code body) else none))
  else if code = 25 then some (.retireSnapshot (n 0) (n 1))
  else if code = 26 then some (.listSnapshots (n 0))
  else if code = 27 then some (.lookupBlock (n 0) (n 1) (n 2))
  else if code = 28 then
    some (.setPool { size := mgmtOptional code body 0, lowMark := mgmtOptional code body 1,
                     rescue := mgmtOptional code body 2 })
  else if code = 29 then some .clearQuarantine
  else if code = 30 then
    some (.requestRestore
      { volume := n 0, epoch := n 1, first := n 2, count := n 3,
        mode := match Config.choice code body 4 with
          | some 0 => some .inPlace
          | some 1 => some (.side (n 5) (n 6))
          | _ => none
        owner := n 7, tags := mgmtTags code body 8,
        urgency := match Config.choice code body 9 with | some 0 => some .urgent | some 1 => some .ordinary | _ => none })
  else if code = 33 then some (.cancelRestore (n 0))
  else if code = 34 then some (.readRestore (n 0))
  else if code = 35 then
    let h := mgmtShort code body
    some (.writeSchedule { cycle := h 0, point := h 1, window := h 2, length := h 3, reload := h 4 })
  else if code = 36 then
    some (.startSchedule (match Config.choice code body 0 with
      | some 0 => some .repeating
      | some 1 => some .single
      | _ => none))
  else if code = 37 then some .stopSchedule
  else if code = 38 then some .clearCycle
  else if code = 39 then some (.writeRoster (n 0) (n 1))
  else if code = 40 then some (.eraseRoster (n 0))
  else if code = 41 then some (.setBase (n 0) (n 1))
  else if code = 42 then some .readSchedule
  else if code = 43 then some .readDuplication
  else if code = 44 then some .openService
  else if code = 45 then some .pauseService
  else if code = 46 then some .saveTables
  else if code = 47 then some .loadTables
  else if code = 48 then some .restart
  else if code = 49 then
    let o := mgmtOptional code body
    some (.setTimers { claimLifetime := o 0, storeTimeout := o 1, commitTimeout := o 2, silenceTime := o 3,
                       stallLimit := o 4, faultThreshold := o 5 })
  else if code = 50 then some (.setClock (n 0))
  else if code = 51 then some .readStatus
  else none

/-! ### Frames of the array and of the offsite partner (R189) -/

/-- The command that a good frame of the store channel is (R89, R189), `none` for a frame to be discarded. -/
def storeCommandOf (kind : Byte) (seq : U16) (body : List Byte) : Option Instr :=
  if kind = 67 ∧ body.length = 8 then some (.storeDone (byteAt body 0) seq)
  else if kind = 68 ∧ body.length > 8 ∧ (body.length - 8) % Config.blockBytes = 0
      ∧ (body.length - 8) / Config.blockBytes ≤ 64 then some (.storeData (byteAt body 0) seq (body.drop 8))
  else if kind = 69 ∧ body.length = 8 then
    if byteAt body 1 = 1 then some (.storeFault (byteAt body 0) seq .media)
    else if byteAt body 1 = 2 then some (.storeFault (byteAt body 0) seq .range)
    else if byteAt body 1 = 3 then some (.storeFault (byteAt body 0) seq .refused)
    else none
  else none

/-- The command that a good frame of the offsite link is (R141 to R157, R189), `none` for a frame to be discarded. -/
def offsiteCommandOf (kind : Byte) (seq : U16) (body : List Byte) : Option Instr :=
  if kind = 88 ∧ body.length = 8 then some (.accept (word body 0))
  else if kind = 89 ∧ body.length = 8 then some (.commit (word body 0) (word body 4))
  else if kind = 90 ∧ body.length = 16 then some (.reject (word body 0) (word body 4) (byteAt body 8))
  else if kind = 91 ∧ body.length = 8 then some (.sealed (word body 0))
  else if kind = 92 ∧ body.length = 8 then some (.probeAnswer seq)
  else none

/-! ### Table words -/

/-- The command a table word spells: none, since no row of spec/opcode_table.json gives bits. -/
def decodeTableWord (_nbits _w : Nat) : Option Instr := none

end Sys2Proof
end

