-- ==== Sys2Proof/Machine/State.lean ====
section
/-! DEFINITION. The state of the SV-420 as plain data: every table, list, counter, mark and mode the spec gives its
blocks, the frames the part has sent, and the queue of waiting commands. `State.reset` is the part right after
power-on or the reset line. -/

namespace Sys2Proof.Machine

/-! ### Statuses, faults and refusals -/

/-- The status, reason and outcome codes of R187. -/
inductive Status
  | ok
  | accepted
  | granted
  | partialGrant
  | settled
  | released
  | preserved
  | faulted
  | cancelled
  | stale
  | endOfTable
  | notNeeded
  | done
  | failed
  | abandoned
  | busy
  | notServing
  | wrongState
  | badField
  | wrongLink
  | unknownOwner
  | unknownVolume
  | ownerTableFull
  | claimTableFull
  | overLimit
  | fenced
  | indexFull
  | poolEmpty
  | noSnapshot
  | snapshotFull
  | inUse
  | noRestore
  | noEntry
  | storeFault
  | badImage
  | opening
  | full
  | passActive
  | late
  | retired
  | windowClosed
  | stopped
  | attempts
  | restart
  deriving DecidableEq, Repr

/-- Reasons a step can stop with a fault. The spec gives every command an effect, so no command raises one: the
type has no constructor (safe: nothing stops). -/
inductive Fault
  deriving DecidableEq, Repr

/-- Reasons a step can be refused. -/
inductive Refusal
  /-- Raised by a refused arm of `exec` for a command that has no meaning yet; no arm is refused now (safe). -/
  | notModelled (mnemonic : String)
  deriving DecidableEq, Repr

/-! ### The management link and the service state -/

/-- The service state (R175). -/
inductive ServiceState
  | starting
  | serving
  | pausing
  | paused
  | saving
  | loading
  deriving DecidableEq, Repr

/-- A link's last-frame-error mark (R160, R172). -/
inductive FrameMark
  | none
  | check
  | length
  | kind
  deriving DecidableEq, Repr

/-- The cause a SERVICE_CHANGED carries (R175, R190). -/
inductive Cause
  | openService
  | pauseService
  | saveTables
  | loadTables
  | restart
  | drain
  | saveEnd
  | loadEnd
  deriving DecidableEq, Repr

/-! ### The quota unit -/

/-- Where an owner stands against its soft limit; a deadline is present exactly in GRACE (R1). -/
inductive GraceState
  | within
  | grace (deadline : Nat)
  | expired
  deriving DecidableEq, Repr

/-- How an owner record came to be (R1): a policy row index, or WRITTEN. -/
inductive Origin
  | row (index : Nat)
  | written
  deriving DecidableEq, Repr

/-- An owner record (R1). -/
structure OwnerRecord where
  owner : Nat
  cls : OwnerClass
  hard : Nat
  soft : Nat
  held : Nat
  reserved : Nat
  pinned : Nat
  share : Nat
  overdraft : Nat
  overTags : TagSet
  grace : GraceState
  origin : Origin
  deriving DecidableEq, Repr

/-- A filled policy row (R3). A volume match of `none` is ANY. -/
structure PolicyRow where
  pattern : BitVec 24
  mask : BitVec 24
  volume : Option Nat
  tagCondition : Option TagSet
  cls : OwnerClass
  hard : Nat
  soft : Nat
  share : Nat
  overdraft : Nat
  overTags : TagSet
  graceMinutes : Nat
  deriving DecidableEq, Repr

/-- Who made a claim (R27): a SERVER claim has a link and a remaining lifetime in seconds, a RESTORE claim neither. -/
inductive ClaimKind
  | server (link : Link) (remaining : Nat)
  | restore
  deriving DecidableEq, Repr

/-- An open claim (R27). -/
structure Claim where
  ticket : Nat
  owner : Nat
  granted : Nat
  kind : ClaimKind
  deriving DecidableEq, Repr

/-- The quota unit: the owner table in ascending owner number, the 24 policy rows, the claim list in grant order and
the ticket counter (R1, R3, R27, R28). -/
structure Quota where
  owners : List OwnerRecord
  policy : Vector (Option PolicyRow) 24
  claims : List Claim
  ticketCounter : Nat
  deriving DecidableEq, Repr

/-! ### The snapshot catalogue -/

/-- A PRESERVE held in a volume's waiting list, with the link it arrived on (R54). -/
structure Waiting where
  link : Link
  seq : U16
  req : PreserveReq
  deriving DecidableEq, Repr

/-- A merge in progress: the merging epoch, its target or "none", the block cursor and the slots freed so far (R42,
R57, R58). -/
structure Merge where
  epoch : Nat
  target : Option Nat
  cursor : Nat
  freed : Nat
  deriving DecidableEq, Repr

/-- A volume entry (R42). -/
structure Volume where
  volume : Nat
  link : Link
  waiting : List Waiting
  merge : Option Merge
  deriving DecidableEq, Repr

/-- The kind of a snapshot (R46). -/
inductive SnapKind
  | manual
  | nightly
  deriving DecidableEq, Repr

/-- The state of a snapshot record (R46). A record in GONE holds no snapshot and is not in the list. -/
inductive SnapState
  | opening
  | live
  | retirePending
  | merging
  deriving DecidableEq, Repr

/-- A holder of a snapshot (R46, R47). -/
inductive Holder
  | restore (id : Nat)
  | duplication
  deriving DecidableEq, Repr

/-- A snapshot record not GONE (R46). -/
structure Snapshot where
  volume : Nat
  epoch : Nat
  kind : SnapKind
  label : Option (List Byte)
  creation : Option Nat
  state : SnapState
  holds : List Holder
  changeCount : Nat
  deriving DecidableEq, Repr

/-- The catalogue: the volume table in ascending number, the 48 next-epoch counters, and the snapshot records not
GONE in ascending volume and epoch (R42, R46). -/
structure Catalogue where
  volumes : List Volume
  nextEpoch : Vector Nat 48
  snaps : List Snapshot
  deriving DecidableEq, Repr

/-! ### The preservation unit -/

/-- The state of a SLOT entry (R64). -/
inductive EntryState
  | copying
  | settled
  deriving DecidableEq, Repr

/-- What an index entry holds: a slot, the owner it pins and its state, or the mark FRESH (R64). -/
inductive EntryKind
  | slot (slot : Nat) (owner : Nat) (state : EntryState)
  | fresh
  deriving DecidableEq, Repr

/-- An entry of the preservation index, keyed by volume, block and interval (R64). -/
structure Entry where
  volume : Nat
  block : Nat
  interval : Nat
  kind : EntryKind
  deriving DecidableEq, Repr

/-- The identity of a live read of the duplication engine: its pass, consignment and block. -/
structure ReadId where
  pass : Nat
  consignment : Nat
  block : Nat
  deriving DecidableEq, Repr

/-- Who a pending preservation answers: a server link and sequence number (R77), or a restore's id (R82). -/
inductive Requester
  | link (link : Link) (seq : U16)
  | restore (id : Nat)
  deriving DecidableEq, Repr

/-- A pending preservation (R76, R77). `counted` is set when R77 made it for a server link; `own` lists its COPYING
entries and `waitsOn` the already blocks whose entries were COPYING, each as block and slot. -/
structure PendingPreserve where
  who : Requester
  counted : Bool
  volume : Nat
  first : Nat
  count : Nat
  newCount : Nat
  alreadyCount : Nat
  own : List (Nat × Nat)
  waitsOn : List (Nat × Nat)
  faulted : List Nat
  gate : List ReadId
  deriving DecidableEq, Repr

/-- The preservation unit: the index in index order, the INDEX_LOW mark, the pool with its lists, settings, marks and
rescue timer, and the pending preservations in the order made (R64 to R69, R77). -/
structure Preservation where
  index : List Entry
  indexLow : Bool
  poolSize : Nat
  free : List Nat
  quarantine : List Nat
  lowMark : Nat
  rescueMinutes : Nat
  rescueTimer : Option Nat
  belowLow : Bool
  empty : Bool
  pendings : List PendingPreserve
  deriving DecidableEq, Repr

/-! ### The mover -/

/-- What the array is asked to do (R86). -/
inductive OpKind
  | read
  | write
  | free
  deriving DecidableEq, Repr

/-- Where the array is asked to do it (R86). -/
inductive Area
  | volume (v : Nat)
  | pool
  | tables
  deriving DecidableEq, Repr

/-- Who handed an operation over (R86), with the work it belongs to: the restore a preservation copy is made for, the
source block of a restore's operation, the read of the duplication engine. -/
inductive Client
  | preservation (forRestore : Option Nat)
  | restore (id : Nat) (block : Nat)
  | duplication (read : ReadId)
  | service
  deriving DecidableEq, Repr

/-- A store operation (R86). -/
structure StoreOp where
  op : OpKind
  area : Area
  address : Nat
  length : Nat
  thenWrite : Option (Area × Nat)
  client : Client
  deriving DecidableEq, Repr

/-- Which phase of an operation is issued: its own, or the WRITE that follows a copy's READ (R90). -/
inductive Phase
  | first
  | copyWrite
  deriving DecidableEq, Repr

/-- An issued operation: the phase, its sent sequence and its remaining seconds (R86, R88). -/
structure Issued where
  op : StoreOp
  phase : Phase
  sentSeq : U16
  remaining : Nat
  deriving DecidableEq, Repr

/-- The mover's mode (R97). -/
inductive MoverMode
  | openMode
  | draining
  | drained
  deriving DecidableEq, Repr

/-- An item of the outstanding-live-read list (R96). -/
structure LiveRead where
  volume : Nat
  block : Nat
  read : ReadId
  tag : Option (Fin 32)
  deriving DecidableEq, Repr

/-- The queue of one active restore (R87). -/
structure RestoreQueue where
  id : Nat
  ops : List StoreOp
  deriving DecidableEq, Repr

/-- The mover: the tag table, the waiting queues, the outstanding-live-read list, the mode, the rotation pointer (0 to
3 for the steps 1 to 4), the restore last granted, the store sequence counter, and the bytes of a frame that has begun to
arrive on the store channel (R86 to R97, R186). -/
structure Mover where
  tags : Vector (Option Issued) 32
  preservationQ : List StoreOp
  restoreQs : List RestoreQueue
  duplicationQ : List StoreOp
  serviceQ : List StoreOp
  liveReads : List LiveRead
  mode : MoverMode
  rotation : Fin 4
  lastRestore : Nat
  storeSeq : U16
  begun : List Byte
  deriving DecidableEq, Repr

/-! ### The restore engine -/

/-- Where a restore puts the content (R102). -/
inductive RestoreMode
  | inPlace
  | side (volume : Nat) (first : Nat)
  deriving DecidableEq, Repr

/-- The state of a restore (R102). -/
inductive RestoreState
  | queued
  | planning
  | fencing
  | copying
  | stalled
  | ending
  | done
  | failed
  | cancelled
  deriving DecidableEq, Repr

/-- The outcome of a restore (R102). -/
inductive RestoreOutcome
  | done
  | failed (reason : Status)
  | cancelled
  deriving DecidableEq, Repr

/-- The step of a block in progress (R102). A block in PRESERVING keeps the slot its start found, or none for a
FRESH lookup (R111). -/
inductive BlockStep
  | preserving (found : Option Nat)
  | writing
  | freeing
  deriving DecidableEq, Repr

/-- The plan counts of the sweep (R106). -/
structure Plan where
  w : Nat
  v : Nat
  k : Nat
  deriving DecidableEq, Repr

/-- A restore record (R102). -/
structure Restore where
  id : Nat
  volume : Nat
  epoch : Nat
  first : Nat
  count : Nat
  mode : RestoreMode
  owner : Nat
  tags : TagSet
  urgency : Urgency
  state : RestoreState
  plan : Option Plan
  ticket : Option Nat
  cursor : Option Nat
  inProgress : List (Nat × BlockStep)
  written : Nat
  freed : Nat
  preserved : Nat
  skipped : Nat
  stall : Option Nat
  lastRefusal : Option Status
  outcome : Option RestoreOutcome
  deriving DecidableEq, Repr

/-- The restore engine: the queue, the active places, the ended list and the id counter (R102, R104). -/
structure RestoreEngine where
  queue : List Restore
  active : List Restore
  ended : List Restore
  idCounter : Nat
  deriving DecidableEq, Repr

/-! ### The duplication engine -/

/-- A set of schedule settings C, P, W, D and the pace reload (R122). -/
structure Settings where
  cycle : Nat
  point : Nat
  window : Nat
  length : Nat
  reload : Nat
  deriving DecidableEq, Repr

/-- The schedule state (R124). -/
inductive ScheduleState
  | stopped
  | running
  | stopping
  deriving DecidableEq, Repr

/-- The pass state of a roster entry (R129). -/
inductive PassState
  | waiting
  | opening
  | sending
  | draining
  | closing
  | done
  | abandoned
  | skipped
  deriving DecidableEq, Repr

/-- A roster entry (R129). A base of 0 stands for none. `freed` is the model's own: a snapshot of the volume has become GONE, and
the deferred take is left due for a manual TAKE SNAPSHOT that comes with the next command (R133; DESIGN CHOICE, log entry 11). -/
structure RosterEntry where
  volume : Nat
  base : Nat
  keep : Nat
  target : Option Nat
  deferred : Bool
  freed : Bool := false
  pass : PassState
  deriving DecidableEq, Repr

/-- The phase of the current pass (R139). -/
inductive PassPhase
  | opening
  | sending
  | draining
  | closing
  | abandoning
  deriving DecidableEq, Repr

/-- Where the record of one block of a consignment stands: not yet looked up, being read, read, or VOID (R143,
R144). -/
inductive BlockRecord
  | todo
  | reading
  | data (content : List Byte)
  | void
  deriving DecidableEq, Repr

/-- The blocks of a consignment being read, each with its record (R144). -/
abbrev Reading := List (Nat × BlockRecord)

/-- The in-hand consignment (R139, R144). -/
structure InHand where
  number : Nat
  records : Reading
  deriving DecidableEq, Repr

/-- The state of an unconfirmed consignment; the deadline is present in SENT (R147). -/
inductive ConsignmentState
  | sent (deadline : Nat)
  | due
  | rereading (records : Reading)
  deriving DecidableEq, Repr

/-- An unconfirmed consignment (R147). -/
structure Consignment where
  number : Nat
  attempt : Nat
  blocks : List Nat
  state : ConsignmentState
  deriving DecidableEq, Repr

/-- The current pass (R139). A block cursor of `none` is END. -/
structure Pass where
  number : Nat
  volume : Nat
  base : Nat
  target : Nat
  phase : PassPhase
  cursor : Option Nat
  nextConsignment : Nat
  inHand : Option InHand
  recordsSent : Nat
  recordsCommitted : Nat
  answerAttempt : Nat
  answerDeadline : Option Nat
  reason : Option Status
  deriving DecidableEq, Repr

/-- The state of the offsite link (R155). -/
inductive LinkState
  | up
  | degraded
  | silent
  deriving DecidableEq, Repr

/-- The schedule: the live and next settings, the next-written mark, state, mode, cycle counter, window-open and
run-open marks and the roster; and the model's own count of minute advances the cycle counter has not yet taken
(R122 to R129, R152). -/
structure Schedule where
  live : Settings
  next : Settings
  nextWritten : Bool
  state : ScheduleState
  mode : RunMode
  counter : Nat
  windowOpen : Bool
  runOpen : Bool
  roster : List RosterEntry
  advancesDue : Nat
  deriving DecidableEq, Repr

/-- The offsite link and the current pass: the pass, the unconfirmed window, the pass counter, the pacer, the link
state with its fault counter, silence timer, probe timer, awaited probe, probe history and last reject reason, the
offsite sequence counter, a SEALED held during a save, and the bytes of a frame that has begun to arrive (R139 to R157,
R179, R186). -/
structure Offsite where
  pass : Option Pass
  window : List Consignment
  passCounter : Nat
  divider : Nat
  credits : Nat
  link : LinkState
  faultCounter : Nat
  silence : Nat
  probeTimer : Nat
  awaitedProbe : Option U16
  probeHistory : List Bool
  lastReject : Option Byte
  sequence : U16
  heldSealed : Option Nat
  begun : List Byte
  deriving DecidableEq, Repr

/-! ### Replies, notices and the frames the part sends -/

/-- The flags byte of a reply (R187). -/
abbrev Flags := BitVec 8

/-- A reply on a server link (R188). -/
inductive ServerReply
  | claim (status : Status) (grace : Option GraceState) (ticket granted room lifetime : Nat)
  | settle (status : Status) (flags : Flags) (owner used held : Nat)
  | release (status : Status) (flags : Flags) (held : Nat)
  | preserve (status : Status) (volume first newCount already needed fellShort : Nat) (faulted : List Nat)
  deriving DecidableEq, Repr

/-- What READ OWNER returns: the record, the grace minutes a grace starting now would take, and the five derived
figures (R12). -/
structure OwnerView where
  record : OwnerRecord
  graceMinutes : Nat
  pinCharge : Nat
  charge : Nat
  usage : Nat
  limit : Nat
  limitWithOverdraft : Nat
  deriving DecidableEq, Repr

/-- What LIST SNAPSHOTS returns (R60). -/
structure SnapshotsView where
  link : Link
  nextEpoch : Nat
  merging : Bool
  retirePending : Nat
  listed : List Snapshot
  deriving DecidableEq, Repr

/-- The result of a content lookup (R50, R51). -/
inductive Lookup
  | slot (slot interval owner : Nat) (state : EntryState)
  | fresh (interval : Nat)
  | live
  deriving DecidableEq, Repr

/-- What READ RESTORE returns (R118). -/
structure RestoreView where
  record : Restore
  position : Option Nat
  blocksInProgress : Option Nat
  deriving DecidableEq, Repr

/-- What READ SCHEDULE returns (R137). -/
structure ScheduleView where
  live : Settings
  next : Settings
  nextWritten : Bool
  state : ScheduleState
  mode : RunMode
  counter : Nat
  windowOpen : Bool
  roster : List RosterEntry
  deriving DecidableEq, Repr

/-- What READ DUPLICATION returns (R158). -/
structure DuplicationView where
  pass : Option Pass
  recordsInHand : Nat
  readsAtMover : Nat
  window : List Consignment
  credits : Nat
  reload : Nat
  link : LinkState
  faultCounter : Nat
  faultThreshold : Nat
  silence : Nat
  probeHistory : List Bool
  lastReject : Option Byte
  passCounter : Nat
  runOpen : Bool
  deriving DecidableEq, Repr

/-- The settings of SET TIMERS (R184). -/
structure Timers where
  claimLifetime : Nat
  storeTimeout : Nat
  commitTimeout : Nat
  silenceTime : Nat
  stallLimit : Nat
  faultThreshold : Nat
  deriving DecidableEq, Repr

/-- The figures of one server link in READ STATUS (R185). -/
structure LinkStatus where
  queueLength : Nat
  headHeld : Bool
  copying : Nat
  openClaims : Nat
  mark : FrameMark
  waiting : Nat
  deriving DecidableEq, Repr

/-- What READ STATUS returns (R101, R185). -/
structure StatusView where
  service : ServiceState
  minute : Nat
  seconds : Nat
  noticeQueue : Nat
  noticeCounter : U16
  mark : FrameMark
  requestQueue : Nat
  replyList : Nat
  freeSlots : Nat
  quarantined : Nat
  poolSize : Nat
  lowMark : Nat
  indexFree : Nat
  openClaims : Nat
  restoreQueue : Nat
  activeRestores : Nat
  schedule : Option ScheduleState
  counter : Nat
  windowStart : Nat
  windowEnd : Nat
  link : LinkState
  faultCounter : Nat
  mode : MoverMode
  preservationTags : Nat
  restoreTags : Nat
  duplicationTags : Nat
  serviceTags : Nat
  liveReads : Nat
  links : List LinkStatus
  jobBlocks : Option Nat
  jobExtent : Option Nat
  deriving DecidableEq, Repr

/-- The fields a management reply carries after its status and flags, by the rule of its request (R187). -/
inductive ReplyData
  | empty
  | grace (g : GraceState)
  | owner (v : OwnerView)
  | usage (before after : Nat) (g : GraceState)
  | number (n : Nat)
  | snapshots (v : SnapshotsView)
  | lookup (l : Lookup)
  | pool (size low rescue free : Nat)
  | moved (slots free : Nat)
  | restore (v : RestoreView)
  | settings (s : Settings)
  | scheduleState (s : ScheduleState)
  | schedule (v : ScheduleView)
  | duplication (v : DuplicationView)
  | stateLeft (s : ServiceState)
  | timers (t : Timers)
  | status (v : StatusView)
  deriving DecidableEq, Repr

/-- A reply on the management link: the sequence number and kind code of the request, and what R187 puts in the
body. -/
structure MgmtReply where
  seq : U16
  code : Nat
  status : Status
  flags : Flags
  data : ReplyData
  deriving DecidableEq, Repr

/-- The check group a failed load names (R180, R190). -/
inductive CheckGroup
  | none
  | header
  | counts
  | owners
  | catalogue
  | pool
  | schedule
  deriving DecidableEq, Repr

/-- The cause of a store fault (R92). -/
inductive FaultCause
  | array (reason : ArrayReason)
  | timeout
  deriving DecidableEq, Repr

/-- A notice with its subject fields (R174, R190). A pass outcome of `none` is DONE. -/
inductive NoticeBody
  | graceStarted (owner usage deadline : Nat)
  | graceExpired (owner usage soft : Nat)
  | graceEnded (owner usage soft : Nat)
  | claimLapsed (owner ticket granted : Nat)
  | poolLow (free low : Nat)
  | poolEmpty (quarantined size : Nat)
  | rescueRetire (volume : Option Nat) (epoch free : Nat)
  | indexLow (free volume : Nat)
  | snapshotLive (volume epoch : Nat) (kind : SnapKind)
  | snapshotGone (volume epoch freed : Nat)
  | snapshotSkipped (volume : Nat) (reason : Status) (epoch : Nat)
  | noBase (volume target : Nat)
  | restoreEnded (id : Nat) (outcome : RestoreOutcome) (written freed preserved : Nat)
  | passEnded (volume : Nat) (abandoned : Option Status) (committed : Nat)
  | runEnded (done abandoned skipped : Nat)
  | linkChanged (left entered : LinkState) (faults : Nat)
  | storeFault (area : Area) (address : Nat) (op : OpKind) (phase : Phase) (client : Client) (cause : FaultCause)
  | serviceChanged (left entered : ServiceState) (cause : Cause)
  | saveEnded (outcome : Status) (blocks extent : Nat)
  | loadEnded (outcome : Status) (check : CheckGroup) (blocks : Nat)
  deriving DecidableEq, Repr

/-- A notice with its sequence number and calendar minute (R174). -/
structure Notice where
  seq : U16
  minute : Nat
  body : NoticeBody
  deriving DecidableEq, Repr

/-- A request frame on the store channel (R88, R189). -/
structure StoreRequest where
  tag : Fin 32
  op : OpKind
  area : Area
  address : Nat
  length : Nat
  content : List Byte
  deriving DecidableEq, Repr

/-- A frame on the offsite link (R189). A record of `none` is VOID. -/
inductive OffsiteFrame
  | passOpen (pass volume base target : Nat)
  | consignment (pass number attempt : Nat) (records : List (Nat × Option (List Byte)))
  | passClose (pass total : Nat)
  | passAbandon (pass : Nat)
  | probe
  deriving DecidableEq, Repr

/-- A frame the part has sent, on whichever link. -/
inductive Sent
  | server (link : Link) (seq : U16) (reply : ServerReply)
  | mgmtReply (reply : MgmtReply)
  | notice (notice : Notice)
  | store (seq : U16) (request : StoreRequest)
  | offsite (seq : U16) (frame : OffsiteFrame)
  deriving DecidableEq, Repr

/-! ### Save, load, links and the whole part -/

/-- The eight counts of the image header (R191). -/
structure Counts where
  owners : Nat
  rows : Nat
  volumes : Nat
  snaps : Nat
  entries : Nat
  free : Nat
  quarantine : Nat
  roster : Nat
  deriving DecidableEq, Repr

/-- The step a save is in (R178). -/
inductive SaveStep
  | unfinished
  | body
  | complete
  deriving DecidableEq, Repr

/-- A save or a load in progress (R178, R180). A save fixes counts, pool size, minute and extent; both keep the next
block to hand over, the operations at the mover, the blocks answered and whether one has faulted; a load keeps the
blocks read, each run with its first block. -/
inductive ImageJob
  | save (counts : Counts) (poolSize minute extent : Nat) (step : SaveStep) (next outstanding written : Nat)
      (faulted : Bool)
  | load (extent : Option Nat) (next outstanding read : Nat) (faulted : Bool) (blocks : List (Nat × List Byte))
  deriving DecidableEq, Repr

/-- The management link interpreter: the service state, the request queue, the reply list, the notice queue and
counter, the mark, the save or load in progress, and the bytes of a frame that has begun to arrive (R172 to R180,
R186). -/
structure Mgmt where
  service : ServiceState
  queue : List (U16 × MgmtRequest)
  replies : List MgmtReply
  notices : List Notice
  noticeCounter : U16
  mark : FrameMark
  job : Option ImageJob
  begun : List Byte
  deriving DecidableEq, Repr

/-- The intake of one server link (R160), with the bytes of a frame that has begun to arrive (R186). -/
structure Intake where
  queue : List (U16 × ServerRequest)
  held : Bool
  mark : FrameMark
  begun : List Byte
  deriving DecidableEq, Repr

/-- The calendar minute count and the seconds-of-minute count (R183). -/
structure Clock where
  minute : Nat
  seconds : Nat
  deriving DecidableEq, Repr

/-- The whole part. `sent` lists the frames sent on all links, oldest first; `choices` counts the orders the spec
leaves to the world that one event has met; `pending` is the queue of waiting commands. These three are the
model's own. -/
structure State where
  clock : Clock
  timers : Timers
  mgmt : Mgmt
  links : Vector Intake 8
  quota : Quota
  cat : Catalogue
  pres : Preservation
  mover : Mover
  rest : RestoreEngine
  sched : Schedule
  offsite : Offsite
  sent : List Sent
  choices : Nat
  pending : List Instr
  deriving DecidableEq, Repr

/-! ### Reset -/

/-- The settings at power-on (R122). -/
def Settings.reset : Settings := { cycle := 1440, point := 60, window := 90, length := 300, reload := 65286 }

/-- The timer settings at power-on (R184). -/
def Timers.reset : Timers :=
  { claimLifetime := 60, storeTimeout := 5, commitTimeout := 90, silenceTime := 120, stallLimit := 10,
    faultThreshold := 31 }

/-- The quota unit at power-on (R16, R41). -/
def Quota.reset : Quota :=
  { owners := [], policy := Vector.replicate 24 none, claims := [], ticketCounter := 1 }

/-- The catalogue at power-on (R61). -/
def Catalogue.reset : Catalogue := { volumes := [], nextEpoch := Vector.replicate 48 1, snaps := [] }

/-- The preservation unit at power-on (R84). -/
def Preservation.reset : Preservation :=
  { index := [], indexLow := false, poolSize := 0, free := [], quarantine := [], lowMark := 0, rescueMinutes := 15,
    rescueTimer := none, belowLow := false, empty := false, pendings := [] }

/-- The mover at power-on (R100). -/
def Mover.reset : Mover :=
  { tags := Vector.replicate 32 none, preservationQ := [], restoreQs := [], duplicationQ := [], serviceQ := [],
    liveReads := [], mode := .drained, rotation := 0, lastRestore := 0, storeSeq := 0, begun := [] }

/-- The restore engine at power-on (R121). -/
def RestoreEngine.reset : RestoreEngine := { queue := [], active := [], ended := [], idCounter := 1 }

/-- The schedule at power-on (R124, R138, R152). -/
def Schedule.reset : Schedule :=
  { live := Settings.reset, next := Settings.reset, nextWritten := false, state := .stopped, mode := .repeating,
    counter := 0, windowOpen := false, runOpen := false, roster := [], advancesDue := 0 }

/-- The offsite link at power-on (R139, R146, R157, R159, R186): the first PROBE has gone with sequence number 0, and
its answer is awaited. The silence timer, for which no value is given, holds 0 (DESIGN CHOICE, log entry 44). -/
def Offsite.reset : Offsite :=
  { pass := none, window := [], passCounter := 1, divider := 65286, credits := 0, link := .silent, faultCounter := 0,
    silence := 0, probeTimer := 30, awaitedProbe := some 0, probeHistory := [], lastReject := none, sequence := 1,
    heldSealed := none, begun := [] }

/-- The management link interpreter at power-on (R172, R174, R175). That the notice queue is empty is the model's (DESIGN CHOICE,
log entry 56). -/
def Mgmt.reset : Mgmt :=
  { service := .starting, queue := [], replies := [], notices := [], noticeCounter := 0, mark := .none, job := none,
    begun := [] }

/-- An intake at power-on (R160). -/
def Intake.reset : Intake := { queue := [], held := false, mark := .none, begun := [] }

/-- The part right after power-on or the reset line: STARTING, every block at the value its chapter gives for power-on,
and the first PROBE sent (R157, R175). What no chapter gives is the model's: no frame has begun to arrive and no minute advance is
due (DESIGN CHOICE, log entries 33 and 34), beside what entries 44 and 56 say. -/
def State.reset : State :=
  { clock := { minute := 0, seconds := 0 }
    timers := Timers.reset
    mgmt := Mgmt.reset
    links := Vector.replicate 8 Intake.reset
    quota := Quota.reset
    cat := Catalogue.reset
    pres := Preservation.reset
    mover := Mover.reset
    rest := RestoreEngine.reset
    sched := Schedule.reset
    offsite := Offsite.reset
    sent := [.offsite 0 .probe]
    choices := 0
    pending := [] }

end Sys2Proof.Machine
end

