-- ==== Sys2Proof/Machine/Ops.lean ====
section
/-! DEFINITION. The shared operations: bounded arithmetic, frames sent, notices and replies, the tables' reads and
writes, holds, and the work a command leaves to be done in the same event (`Work`). -/

namespace Sys2Proof.Machine

/-! ### Bounded arithmetic -/

/-- A sum that stops at 4,294,967,295 (00_scope, Saturation). -/
def sat (n : Nat) : Nat := min n Config.maxWord

/-- The calendar minute `k` minutes after `m`, round the wrap (R24, R183). -/
def minuteAfter (m k : Nat) : Nat := (m + k) % 4294967296

/-- The distance forward from one calendar minute to another, round the wrap (R25). -/
def minutesTo (now later : Nat) : Nat := (later + 4294967296 - now % 4294967296) % 4294967296

/-- A counter from `lo` to `hi` after one more value has been taken from it. -/
def nextCount (lo hi n : Nat) : Nat := if n ≥ hi then lo else n + 1

/-- Replace the elements that `p` picks. -/
def updateWhere {α : Type} (p : α → Bool) (f : α → α) (l : List α) : List α := l.map fun x => if p x then f x else x

/-- Put `x` into a list kept in the order of `before`, in front of the first element it goes before. -/
def insertSorted {α : Type} (before : α → α → Bool) (x : α) : List α → List α
  | [] => [x]
  | y :: ys => if before x y then x :: y :: ys else y :: insertSorted before x ys

/-- Map over a vector through its list (structural, so that the kernel evaluates it). -/
def mapVector {α β : Type} {n : Nat} (f : α → β) (v : Vector α n) : Vector β n :=
  ⟨⟨v.toArray.toList.map f⟩, by simp⟩

/-! ### Updates of one block of the part -/

/-- Change the quota unit. -/
def State.onQuota (f : Quota → Quota) (s : State) : State := { s with quota := f s.quota }

/-- Change the catalogue. -/
def State.onCat (f : Catalogue → Catalogue) (s : State) : State := { s with cat := f s.cat }

/-- Change the preservation unit. -/
def State.onPres (f : Preservation → Preservation) (s : State) : State := { s with pres := f s.pres }

/-- Change the mover. -/
def State.onMover (f : Mover → Mover) (s : State) : State := { s with mover := f s.mover }

/-- Change the restore engine. -/
def State.onRest (f : RestoreEngine → RestoreEngine) (s : State) : State := { s with rest := f s.rest }

/-- Change the schedule. -/
def State.onSched (f : Schedule → Schedule) (s : State) : State := { s with sched := f s.sched }

/-- Change the offsite link. -/
def State.onOffsite (f : Offsite → Offsite) (s : State) : State := { s with offsite := f s.offsite }

/-- Change the management link interpreter. -/
def State.onMgmt (f : Mgmt → Mgmt) (s : State) : State := { s with mgmt := f s.mgmt }

/-- Change one server link's intake. -/
def State.onLink (l : Link) (f : Intake → Intake) (s : State) : State :=
  { s with links := s.links.set l.val (f s.links[l.val]) l.isLt }

/-- The intake of a link. -/
def State.intake (s : State) (l : Link) : Intake := s.links[l.val]

/-! ### Frames, notices and replies -/

/-- Send a frame. -/
def State.send (x : Sent) (s : State) : State := { s with sent := s.sent ++ [x] }

/-- Send a reply on a server link, on the link the request arrived on (R167). -/
def State.answer (l : Link) (seq : U16) (r : ServerReply) (s : State) : State := s.send (.server l seq r)

/-- Raise a notice: it takes the counter's number and the calendar minute, and joins the notice queue unless that holds
64 (R174). -/
def State.raise (b : NoticeBody) (s : State) : State :=
  s.onMgmt fun m =>
    { m with
      notices := if m.notices.length < 64 then m.notices ++ [{ seq := m.noticeCounter, minute := s.clock.minute, body := b }]
        else m.notices
      noticeCounter := m.noticeCounter + 1 }

/-- Put a reply at the tail of the reply list (R173). -/
def State.reply (seq : U16) (code : Nat) (status : Status) (flags : Flags) (data : ReplyData) (s : State) : State :=
  s.onMgmt fun m =>
    { m with replies := m.replies ++ [{ seq := seq, code := code, status := status, flags := flags, data := data }] }

/-- Refuse a management request: no flags, no fields (R187). -/
def State.refuse (seq : U16) (code : Nat) (status : Status) (s : State) : State := s.reply seq code status 0 .empty

/-- Change the service state and raise SERVICE_CHANGED (R175). -/
def State.enterService (entered : ServiceState) (cause : Cause) (s : State) : State :=
  (s.onMgmt fun m => { m with service := entered }).raise (.serviceChanged s.mgmt.service entered cause)

/-- Send an offsite frame with the next number of the offsite sequence counter (R186). -/
def State.sendOffsite (f : OffsiteFrame) (s : State) : State :=
  (s.send (.offsite s.offsite.sequence f)).onOffsite fun o => { o with sequence := o.sequence + 1 }

/-! ### The owner table and the policy rows -/

/-- The record of an owner (R1). -/
def State.owner? (s : State) (n : Nat) : Option OwnerRecord := s.quota.owners.find? fun r => r.owner == n

/-- Put a record at its place in the ascending order (R1). -/
def State.addOwner (r : OwnerRecord) (s : State) : State :=
  s.onQuota fun q => { q with owners := insertSorted (fun a b => a.owner < b.owner) r q.owners }

/-- Change an owner's record. -/
def State.onOwner (n : Nat) (f : OwnerRecord → OwnerRecord) (s : State) : State :=
  s.onQuota fun q => { q with owners := updateWhere (fun r => r.owner == n) f q.owners }

/-- A policy row (R3). -/
def State.policyRow (s : State) (i : Nat) : Option PolicyRow := (s.quota.policy[i]?).join

/-- Write a policy row. -/
def State.setPolicyRow (i : Nat) (row : Option PolicyRow) (s : State) : State :=
  s.onQuota fun q => { q with policy := q.policy.setIfInBounds i row }

/-! ### The catalogue -/

/-- A volume entry (R42). -/
def State.volume? (s : State) (v : Nat) : Option Volume := s.cat.volumes.find? fun e => e.volume == v

/-- Change a volume entry. -/
def State.onVolume (v : Nat) (f : Volume → Volume) (s : State) : State :=
  s.onCat fun c => { c with volumes := updateWhere (fun e => e.volume == v) f c.volumes }

/-- A volume's next-epoch counter (R42). -/
def State.nextEpoch (s : State) (v : Nat) : Nat := (s.cat.nextEpoch[v]?).getD 0

/-- The snapshots of a volume not GONE, ascending epoch (R46). -/
def State.snapsOf (s : State) (v : Nat) : List Snapshot := s.cat.snaps.filter fun x => x.volume == v

/-- The record of a snapshot (R46). -/
def State.snap? (s : State) (v e : Nat) : Option Snapshot :=
  s.cat.snaps.find? fun x => x.volume == v && x.epoch == e

/-- Change a snapshot record. -/
def State.onSnap (v e : Nat) (f : Snapshot → Snapshot) (s : State) : State :=
  s.onCat fun c => { c with snaps := updateWhere (fun x => x.volume == v && x.epoch == e) f c.snaps }

/-- The volume's newest snapshot: the highest epoch not GONE (R48). -/
def State.newest (s : State) (v : Nat) : Option Snapshot :=
  (s.snapsOf v).foldl (fun best x => match best with
    | none => some x
    | some b => if b.epoch < x.epoch then some x else some b) none

/-- The volume has a snapshot in a state. -/
def State.hasSnap (s : State) (v : Nat) (st : SnapState) : Bool := (s.snapsOf v).any fun x => x.state == st

/-- Snapshots before one another in the catalogue: ascending volume, then epoch (R63). -/
def snapBefore (a b : Snapshot) : Bool := a.volume < b.volume || (a.volume == b.volume && a.epoch < b.epoch)

/-- Place a hold, unless the holder is listed already (R47). -/
def State.placeHold (v e : Nat) (h : Holder) (s : State) : State :=
  s.onSnap v e fun x => if x.holds.contains h then x else { x with holds := x.holds ++ [h] }

/-! ### The preservation index -/

/-- Entries before one another in the index: by volume, block and interval (R64). -/
def entryBefore (a b : Entry) : Bool :=
  a.volume < b.volume || (a.volume == b.volume &&
    (a.block < b.block || (a.block == b.block && a.interval < b.interval)))

/-- The entry with a key (R64). -/
def State.entry? (s : State) (v b i : Nat) : Option Entry :=
  s.pres.index.find? fun e => e.volume == v && e.block == b && e.interval == i

/-- The index free count (R65). -/
def State.indexFree (s : State) : Nat := Config.maxEntries - s.pres.index.length

/-- The entries of a volume in an interval range `lo ≤ interval < hi`, in index order. -/
def State.entriesIn (s : State) (v lo : Nat) (hi : Option Nat) : List Entry :=
  s.pres.index.filter fun e => e.volume == v && lo ≤ e.interval && hi.all fun h => e.interval < h

/-- The slot an entry holds. -/
def Entry.slot? (e : Entry) : Option Nat :=
  match e.kind with
  | .slot n _ _ => some n
  | .fresh => none

/-- The owner whose pinned count an entry raises (R64). -/
def Entry.owner? (e : Entry) : Option Nat :=
  match e.kind with
  | .slot _ o _ => some o
  | .fresh => none

/-- The entry is COPYING (R64). -/
def Entry.copying (e : Entry) : Bool :=
  match e.kind with
  | .slot _ _ .copying => true
  | _ => false

/-- The element of a list with the smallest key, the first of equals. -/
def leastBy {α : Type} (key : α → Nat) (l : List α) : Option α :=
  l.foldl (fun best x => match best with
    | none => some x
    | some b => if key x < key b then some x else some b) none

/-- A content lookup: of the block's entries whose interval is the epoch or later, the one with the smallest interval
(R50). -/
def State.lookup (s : State) (v b epoch : Nat) : Lookup :=
  match leastBy (·.interval) (s.pres.index.filter fun e => e.volume == v && e.block == b && epoch ≤ e.interval) with
  | none => .live
  | some e =>
    match e.kind with
    | .slot n o st => .slot n e.interval o st
    | .fresh => .fresh e.interval

/-- The lowest block from `lo` up to `hi` that has an entry of the volume in the intervals `ifrom` to below `below`. -/
def State.nextBlock (s : State) (v lo hi ifrom : Nat) (below : Option Nat) : Option Nat :=
  (leastBy (·.block) ((s.entriesIn v ifrom below).filter fun e => lo ≤ e.block && e.block ≤ hi)).map (·.block)

/-! ### Ranges, restores and fences -/

/-- Two block ranges share a block. -/
def overlaps (f1 c1 f2 c2 : Nat) : Bool := f1 < f2 + c2 && f2 < f1 + c1

/-- The volume of a restore's fence range (R102). -/
def Restore.fenceVolume (r : Restore) : Nat :=
  match r.mode with
  | .inPlace => r.volume
  | .side v _ => v

/-- The first block of a restore's fence range (R102). -/
def Restore.fenceFirst (r : Restore) : Nat :=
  match r.mode with
  | .inPlace => r.first
  | .side _ b => b

/-- The fence of a restore is installed from FENCING to its closing (R109, R116). -/
def Restore.fenced (r : Restore) : Bool :=
  match r.state with
  | .fencing | .copying | .stalled | .ending => true
  | _ => false

/-- The active restore with an id (R102). -/
def State.active? (s : State) (id : Nat) : Option Restore := s.rest.active.find? fun r => r.id == id

/-- Change an active restore. -/
def State.onActive (id : Nat) (f : Restore → Restore) (s : State) : State :=
  s.onRest fun e => { e with active := updateWhere (fun r => r.id == id) f e.active }

/-! ### The roster -/

/-- The roster entry of a volume (R129). -/
def State.roster? (s : State) (v : Nat) : Option RosterEntry := s.sched.roster.find? fun e => e.volume == v

/-- Change a roster entry. -/
def State.onRoster (v : Nat) (f : RosterEntry → RosterEntry) (s : State) : State :=
  s.onSched fun c => { c with roster := updateWhere (fun e => e.volume == v) f c.roster }

/-! ### Counts that the tables give -/

/-- The open SERVER claims whose link field names a link (R29). -/
def State.openClaims (s : State) (l : Link) : Nat :=
  s.quota.claims.countP fun c => match c.kind with
    | .server k _ => k == l
    | .restore => false

/-- A link's copying preserves: the pending preservations that R77 made for it and that are not answered (R78). -/
def State.copyingPreserves (s : State) (l : Link) : Nat :=
  s.pres.pendings.countP fun p => p.counted && match p.who with
    | .link k _ => k == l
    | .restore _ => false

/-! ### Work left to the same event -/

/-- What a change leaves for other blocks to do in the same event. -/
inductive Task
  /-- The interpreter takes the requests it may (R173). -/
  | mgmtTake
  /-- A link's intake takes from its head (R162). -/
  | intake (l : Link)
  /-- A link's copying count fell (R78, R163). -/
  | linkFall (l : Link)
  /-- A volume's waiting list is handed back (R54). -/
  | handBack (v : Nat)
  /-- The catalogue tests a volume for quiet (R53). -/
  | quiet (v : Nat)
  /-- The FENCING restores of a volume are tested (R109). -/
  | fencing (v : Nat)
  /-- A restore takes its walk or its retry (R110, R114). -/
  | walk (id : Nat)
  /-- Every COPYING restore takes its walk (R110). -/
  | walks
  /-- Every STALLED restore makes its retry (R114). -/
  | retries
  /-- The restore scheduler runs (R105). -/
  | schedule
  /-- A PLANNING restore takes its sweep (R106). -/
  | sweep (id : Nat)
  /-- The snapshot point visits a roster entry (R132). -/
  | snapVisit (v : Nat)
  /-- Step 2, 3 or 4 of an advance of the cycle counter (R125). -/
  | cycleStep (n : Nat)
  /-- The merge start runs for every volume (R56, R176). -/
  | mergeStarts
  /-- The duplication engine tests for a new pass (R140). -/
  | passTest
  /-- The duplication engine tests what it may do next (R144 to R151, R153, R154). -/
  | dup
  deriving DecidableEq, Repr

/-- A state in the middle of an event: the tasks still to do, first to be done first; whether the mover must test for
grants and the end of a drain before the event ends (R93, R97); and the owners whose grace, and whether the pool warnings,
are to be evaluated once its changes are made (R23, R72). -/
structure Work where
  st : State
  todo : List Task
  touched : Bool
  owners : List Nat := []
  pool : Bool := false
  deriving DecidableEq, Repr

/-- Change the state. -/
def Work.on (f : State → State) (w : Work) : Work := { w with st := f w.st }

/-- Leave tasks to be done. -/
def Work.push (ts : List Task) (w : Work) : Work := { w with todo := w.todo ++ ts }

/-- Note that an operation was placed or a tag was freed. -/
def Work.touch (w : Work) : Work := { w with touched := true }

/-- Note that entries were made, freed or removed: the pool warnings, and the grace of the owner they name, are to be
evaluated once, after all the changes of the event (R23, R72). -/
def Work.mark (owner : Option Nat) (w : Work) : Work := { w with owners := w.owners ++ owner.toList, pool := true }

end Sys2Proof.Machine
end

