-- ==== Sys2Proof/Machine/Flags.lean ====
section
/-! DEFINITION. The flags byte of replies (R187). -/

namespace Sys2Proof.Machine

/-- A flag bit, set when the condition holds. -/
def flagIf (b : Bool) (bit : Flags) : Flags := if b then bit else 0

/-- Bit 0: a field was clamped. -/
def clampedFlag : Flags := 1

/-- Bit 1: the row was filled before. -/
def replacedFlag : Flags := 2

/-- Bit 2: the record or entry did not exist before. -/
def createdFlag : Flags := 4

/-- Bit 3: nothing was left to do. -/
def alreadyFlag : Flags := 8

/-- Bit 4: a volume's link was replaced. -/
def reboundFlag : Flags := 16

/-- Bit 5: the settings were copied into the live settings at once. -/
def appliedFlag : Flags := 32

end Sys2Proof.Machine
end

