-- ==== Sys2Proof/Machine/Operands.lean ====
section
/-! DEFINITION. The checks and clamps of the fields that requests carry. -/

namespace Sys2Proof.Machine

/-- A value brought into a range. -/
def clampTo (lo hi n : Nat) : Nat := if n < lo then lo else if n > hi then hi else n

/-- An optional field clamped to its range, or the value in force when it is absent (R184). -/
def optClamp (lo hi : Nat) (field : Option U32) (now : Nat) : Nat :=
  match field with
  | none => now
  | some x => clampTo lo hi x.toNat

/-- An optional field is present and lies outside its range. -/
def optClamped (lo hi : Nat) (field : Option U32) : Bool :=
  match field with
  | none => false
  | some x => x.toNat < lo || hi < x.toNat

/-- An owner number within 0 to 16,777,215 (R9). -/
def ownerNumberOk (n : U32) : Bool := n.toNat ≤ Config.maxOwnerNumber

/-- A volume number within 0 to 47. -/
def volumeNumberOk (n : U32) : Bool := n.toNat ≤ Config.maxVolume

/-- A label is printable text of at most 24 characters (R46, R52). Printable is taken as the codes 32 to 126 (log entry 31), and
a present label of no characters is taken (DESIGN CHOICE, log entry 47). -/
def labelOk (label : Option (List Byte)) : Bool :=
  match label with
  | none => true
  | some cs => cs.length ≤ 24 && cs.all fun c => 32 ≤ c.toNat && c.toNat ≤ 126

/-- The states in which the owner, policy, volume, roster and schedule-setting requests and CLEAR QUARANTINE are taken
(R9, R45, R71, R123, R128, R130). -/
def configurable (st : ServiceState) : Bool :=
  match st with
  | .starting | .serving | .pausing | .paused => true
  | _ => false

/-- The states in which snapshot, restore, START and STOP SCHEDULE and SET BASE requests are taken (R45, R103, R126,
R131). -/
def operable (st : ServiceState) : Bool :=
  match st with
  | .serving | .pausing | .paused => true
  | _ => false

/-- Settings made valid in the order C, P, W, D, each against the fields already clamped (R122). -/
def Settings.clamp (x : Settings) : Settings :=
  let c := clampTo 60 10080 x.cycle
  let p := if x.point > c - 1 then c - 1 else x.point
  let w := clampTo p (c - 1) x.window
  let d := clampTo 1 (c - w) x.length
  { cycle := c, point := p, window := w, length := d, reload := x.reload }

/-- The settings of a WRITE SCHEDULE as written (R123). -/
def settingsOf (r : ScheduleReq) : Settings :=
  { cycle := r.cycle.toNat, point := r.point.toNat, window := r.window.toNat, length := r.length.toNat,
    reload := r.reload.toNat }

end Sys2Proof.Machine
end

