-- ==== Sys2Proof/Machine/Owners.lean ====
section
/-! DEFINITION. The quota unit's records: the figures of an owner, the grace evaluation and the grace test, the policy
rows and their search, and the six requests of the chapter Owners and Policy Rows. -/

namespace Sys2Proof.Machine

/-! ### Figures (R12, R19, R20, R23) -/

/-- The pin charge: the ceiling of pinned times share over sixteen. -/
def OwnerRecord.pinCharge (r : OwnerRecord) : Nat := (r.pinned * r.share + 15) / 16

/-- The charge: h + r + pin charge, saturated. -/
def OwnerRecord.charge (r : OwnerRecord) : Nat := sat (r.held + r.reserved + r.pinCharge)

/-- The usage: h + pin charge, saturated. -/
def OwnerRecord.usage (r : OwnerRecord) : Nat := sat (r.held + r.pinCharge)

/-- The limit in force: the soft limit when EXPIRED, otherwise the hard limit. -/
def OwnerRecord.limit (r : OwnerRecord) : Nat :=
  match r.grace with
  | .expired => r.soft
  | _ => r.hard

/-- The limit with overdraft, saturated. -/
def OwnerRecord.limitWithOverdraft (r : OwnerRecord) : Nat := sat (r.limit + r.overdraft)

/-- The ceiling a claim with these tags is decided against (R20). -/
def OwnerRecord.ceiling (r : OwnerRecord) (tags : TagSet) : Nat :=
  if tags &&& r.overTags ≠ 0 then r.limitWithOverdraft else r.limit

/-- The room: the ceiling minus the charge, or 0 (R21). -/
def OwnerRecord.room (r : OwnerRecord) (tags : TagSet) : Nat := r.ceiling tags - r.charge

/-- The grace minutes a grace starting now takes: the origin row's, or 10,080 (R2). -/
def State.graceMinutes (s : State) (r : OwnerRecord) : Nat :=
  match r.origin with
  | .row i => match s.policyRow i with
    | some row => row.graceMinutes
    | none => Config.defaultGraceMinutes
  | .written => Config.defaultGraceMinutes

/-! ### Grace (R24, R25) -/

/-- What the evaluation makes of a record: the grace state after it, and the notice it raises (R24). -/
def graceOutcome (minute minutes : Nat) (r : OwnerRecord) : GraceState × Option NoticeBody :=
  let u := r.usage
  match r.grace with
  | .within =>
    if u ≤ r.soft then (.within, none)
    else if minutes = 0 then (.expired, some (.graceExpired r.owner u r.soft))
    else
      let deadline := minuteAfter minute minutes
      (.grace deadline, some (.graceStarted r.owner u deadline))
  | .grace d => if u ≤ r.soft then (.within, some (.graceEnded r.owner u r.soft)) else (.grace d, none)
  | .expired => if u ≤ r.soft then (.within, some (.graceEnded r.owner u r.soft)) else (.expired, none)

/-- Raise a notice if there is one. -/
def State.raiseIf (b : Option NoticeBody) (s : State) : State :=
  match b with
  | none => s
  | some b => s.raise b

/-- The grace evaluation of an owner (R23, R24). -/
def State.evalGrace (n : Nat) (s : State) : State :=
  match s.owner? n with
  | none => s
  | some r =>
    let (g, b) := graceOutcome s.clock.minute (s.graceMinutes r) r
    (s.onOwner n fun r => { r with grace := g }).raiseIf b

/-- A deadline is due: the distance forward to it is 0 or greater than 43,200 (R25). -/
def graceDue (minute deadline : Nat) : Bool :=
  let d := minutesTo minute deadline
  d == 0 || d > Config.maxGraceMinutes

/-- The grace test on one owner: a due deadline sets the record EXPIRED and raises GRACE_EXPIRED (R25). -/
def State.testGrace (n : Nat) (s : State) : State :=
  match s.owner? n with
  | none => s
  | some r =>
    match r.grace with
    | .grace d =>
      if graceDue s.clock.minute d then
        (s.onOwner n fun r => { r with grace := .expired }).raise (.graceExpired r.owner r.usage r.soft)
      else s
    | _ => s

/-- The grace test on every record (R25), in ascending owner number, which no rule gives for SET CLOCK (DESIGN CHOICE, log
entry 46). -/
def State.testAllGrace (s : State) : State := s.quota.owners.foldl (fun s r => s.testGrace r.owner) s

/-! ### Policy rows (R3 to R6) -/

/-- A policy row matches a request's owner number, volume and tag set (R4). -/
def PolicyRow.matches (row : PolicyRow) (owner : Nat) (volume : Nat) (tags : TagSet) : Bool :=
  (BitVec.ofNat 24 owner &&& row.mask) == (row.pattern &&& row.mask)
    && (match row.volume with | none => true | some v => v == volume)
    && (match row.tagCondition with | none => true | some t => t &&& tags != 0)

/-- The record a policy row creates (R5). -/
def PolicyRow.newRecord (row : PolicyRow) (owner index : Nat) : OwnerRecord :=
  { owner := owner, cls := row.cls, hard := row.hard, soft := row.soft, held := 0, reserved := 0, pinned := 0,
    share := row.share, overdraft := row.overdraft, overTags := row.overTags, grace := .within, origin := .row index }

/-- The first row that matches, with its index (R5). -/
def State.matchingRow (s : State) (owner volume : Nat) (tags : TagSet) : Option (Nat × PolicyRow) :=
  (List.range 24).findSome? fun i =>
    match s.policyRow i with
    | some row => if row.matches owner volume tags then some (i, row) else none
    | none => none

/-- Find the owner's record or create it by the search of R5; a status is the refusal. -/
def State.findOrCreate (owner volume : Nat) (tags : TagSet) (s : State) : Except Status State :=
  match s.owner? owner with
  | some _ => .ok s
  | none =>
    match s.matchingRow owner volume tags with
    | none => .error .unknownOwner
    | some (i, row) =>
      if s.quota.owners.length < Config.maxOwners then .ok (s.addOwner (row.newRecord owner i))
      else .error .ownerTableFull

/-! ### The requests -/

/-- The grace state of an owner. -/
def State.graceOf (s : State) (n : Nat) : GraceState :=
  match s.owner? n with
  | some r => r.grace
  | none => .within

/-- WRITE OWNER (R9, R10). -/
def takeWriteOwner (seq : U16) (q : WriteOwnerReq) (s : State) : State :=
  let n := q.owner.toNat
  if !configurable s.mgmt.service then s.refuse seq 16 .wrongState else
  if !ownerNumberOk q.owner then s.refuse seq 16 .badField else
  match q.cls with
  | none => s.refuse seq 16 .badField
  | some cls =>
    if q.overdraft.toNat > 1048575 then s.refuse seq 16 .badField else
    let soft := min q.soft.toNat q.hard.toNat
    let share := min q.share.toNat 16
    let clamped := q.hard.toNat < q.soft.toNat || 16 < q.share.toNat
    let write (r : OwnerRecord) : OwnerRecord :=
      { r with cls := cls, hard := q.hard.toNat, soft := soft, share := share, overdraft := q.overdraft.toNat,
               overTags := q.tags }
    match s.owner? n with
    | some _ =>
      let s := (s.onOwner n write).evalGrace n
      s.reply seq 16 .ok (flagIf clamped clampedFlag) (.grace (s.graceOf n))
    | none =>
      if s.quota.owners.length < Config.maxOwners then
        let s := (s.addOwner (write { owner := n, cls := cls, hard := 0, soft := 0, held := 0, reserved := 0, pinned := 0,
                                      share := 0, overdraft := 0, overTags := 0, grace := .within,
                                      origin := .written })).evalGrace n
        s.reply seq 16 .ok (createdFlag ||| flagIf clamped clampedFlag) (.grace (s.graceOf n))
      else s.refuse seq 16 .ownerTableFull

/-- The record with its derived figures at the moment of the read (R12). -/
def State.ownerView (s : State) (r : OwnerRecord) : OwnerView :=
  { record := r, graceMinutes := s.graceMinutes r, pinCharge := r.pinCharge, charge := r.charge, usage := r.usage,
    limit := r.limit, limitWithOverdraft := r.limitWithOverdraft }

/-- READ OWNER in either mode (R9, R12, R13). The rules name no status of a record found: it is OK (DESIGN CHOICE, log entry
40). -/
def takeReadOwner (seq : U16) (mode : Option ReadMode) (owner : U32) (s : State) : State :=
  if !configurable s.mgmt.service then s.refuse seq 17 .wrongState else
  match mode with
  | none => s.refuse seq 17 .badField
  | some .exact =>
    if !ownerNumberOk owner then s.refuse seq 17 .badField else
    match s.owner? owner.toNat with
    | some r => s.reply seq 17 .ok 0 (.owner (s.ownerView r))
    | none => s.refuse seq 17 .unknownOwner
  | some .next =>
    if owner.toNat > Config.maxOwnerNumber + 1 then s.refuse seq 17 .badField else
    match leastBy (·.owner) (s.quota.owners.filter fun r => owner.toNat ≤ r.owner) with
    | some r => s.reply seq 17 .ok 0 (.owner (s.ownerView r))
    | none => s.reply seq 17 .endOfTable 0 .empty

/-- A queued or active restore names the owner (R14). -/
def State.restoreNamesOwner (s : State) (n : Nat) : Bool :=
  (s.rest.queue ++ s.rest.active).any fun r => r.owner == n

/-- REMOVE OWNER (R14). -/
def takeRemoveOwner (seq : U16) (owner : U32) (s : State) : State :=
  if !configurable s.mgmt.service then s.refuse seq 18 .wrongState else
  if !ownerNumberOk owner then s.refuse seq 18 .badField else
  let n := owner.toNat
  match s.owner? n with
  | none => s.refuse seq 18 .unknownOwner
  | some r =>
    if r.held ≠ 0 ∨ r.reserved ≠ 0 ∨ r.pinned ≠ 0 ∨ s.restoreNamesOwner n = true then s.refuse seq 18 .inUse
    else (s.onQuota fun q => { q with owners := q.owners.filter fun r => r.owner != n }).reply seq 18 .ok 0 .empty

/-- SET USAGE (R15). -/
def takeSetUsage (seq : U16) (owner held : U32) (s : State) : State :=
  if !configurable s.mgmt.service then s.refuse seq 19 .wrongState else
  if !ownerNumberOk owner then s.refuse seq 19 .badField else
  let n := owner.toNat
  match s.owner? n with
  | none => s.refuse seq 19 .unknownOwner
  | some r =>
    let s := (s.onOwner n fun r => { r with held := held.toNat }).evalGrace n
    s.reply seq 19 .ok 0 (.usage r.held held.toNat (s.graceOf n))

/-- WRITE POLICY (R7). -/
def takeWritePolicy (seq : U16) (q : WritePolicyReq) (s : State) : State :=
  let i := q.index.toNat
  if !configurable s.mgmt.service then s.refuse seq 20 .wrongState else
  if i > 23 then s.refuse seq 20 .badField else
  if q.volume.any (fun v => !volumeNumberOk v) then s.refuse seq 20 .badField else
  match q.cls with
  | none => s.refuse seq 20 .badField
  | some cls =>
    if q.overdraft.toNat > 1048575 then s.refuse seq 20 .badField else
    if q.tagCondition = some 0 then s.refuse seq 20 .badField else
    let clamped := q.hard.toNat < q.soft.toNat || 16 < q.share.toNat || Config.maxGraceMinutes < q.graceMinutes.toNat
    let row : PolicyRow :=
      { pattern := q.pattern &&& q.mask, mask := q.mask, volume := q.volume.map (·.toNat),
        tagCondition := q.tagCondition, cls := cls, hard := q.hard.toNat, soft := min q.soft.toNat q.hard.toNat,
        share := min q.share.toNat 16, overdraft := q.overdraft.toNat, overTags := q.tags,
        graceMinutes := min q.graceMinutes.toNat Config.maxGraceMinutes }
    let replaced := (s.policyRow i).isSome
    (s.setPolicyRow i (some row)).reply seq 20 .ok (flagIf clamped clampedFlag ||| flagIf replaced replacedFlag) .empty

/-- ERASE POLICY (R8). -/
def takeErasePolicy (seq : U16) (index : U32) (s : State) : State :=
  let i := index.toNat
  if !configurable s.mgmt.service then s.refuse seq 21 .wrongState else
  if i > 23 then s.refuse seq 21 .badField else
  match s.policyRow i with
  | none => s.reply seq 21 .ok 0 (.number 0)
  | some _ =>
    let n := s.quota.owners.countP fun r => r.origin == .row i
    ((s.setPolicyRow i none).onQuota fun q =>
      { q with owners := updateWhere (fun r => r.origin == .row i) (fun r => { r with origin := .written }) q.owners }
      ).reply seq 21 .ok 0 (.number n)

end Sys2Proof.Machine
end

