-- ==== Sys2Proof/Machine/Claims.lean ====
section
/-! DEFINITION. The claim list: tickets, admission, settlement, release and lapse (chapter Claims and Admission). -/

namespace Sys2Proof.Machine

/-! ### Tickets (R28) -/

/-- The ticket counter after one value. -/
def nextTicket (n : Nat) : Nat := nextCount 1 Config.maxWord n

/-- The first value from the counter on that is no open claim's ticket; the fuel is more than the open claims. -/
def freeTicket (claims : List Claim) : Nat → Nat → Nat
  | 0, n => n
  | k + 1, n => if claims.any (fun c => c.ticket == n) then freeTicket claims k (nextTicket n) else n

/-- The ticket the next claim takes. -/
def State.ticket (s : State) : Nat :=
  freeTicket s.quota.claims (s.quota.claims.length + 1) s.quota.ticketCounter

/-! ### Admission (R19 to R21) -/

/-- The decision on a claim of `n` blocks against a room: the granted count, or none for OVER_LIMIT (R21). -/
def decide' (n room : Nat) (partialOk : Bool) : Option Nat :=
  if n ≤ room then some n else if partialOk && 1 ≤ room then some room else none

/-- Enter a claim at the tail of the list with the next ticket, raise the owner's reserved count, and evaluate grace
(R23, R27, R31, R37). -/
def State.enterClaim (owner granted : Nat) (kind : ClaimKind) (s : State) : State :=
  let t := s.ticket
  ((s.onQuota fun q =>
      { q with claims := q.claims ++ [{ ticket := t, owner := owner, granted := granted, kind := kind }],
               ticketCounter := nextTicket t }).onOwner owner fun r =>
    { r with reserved := r.reserved + granted }).evalGrace owner

/-- Remove a claim, lower the owner's reserved count by its granted count and raise held by `used`, saturated, then
evaluate grace once (R32, R33, R38). -/
def State.closeClaim (c : Claim) (used : Nat) (s : State) : State :=
  ((s.onQuota fun q => { q with claims := q.claims.filter fun d => d.ticket != c.ticket }).onOwner c.owner fun r =>
    { r with reserved := r.reserved - c.granted, held := sat (r.held + used) }).evalGrace c.owner

/-- The open claim with a ticket. -/
def State.claim? (s : State) (t : Nat) : Option Claim := s.quota.claims.find? fun c => c.ticket == t

/-- A SERVER claim lapses: it charges its whole granted count and raises CLAIM_LAPSED (R32). -/
def State.lapse (c : Claim) (s : State) : State :=
  (s.closeClaim c c.granted).raise (.claimLapsed c.owner c.ticket c.granted)

/-! ### Requests of a file server -/

/-- A CLAIM reply that carries only its status (R31, R188). -/
def claimRefusal (st : Status) : ServerReply := .claim st none 0 0 0 0

/-- A CLAIM taken by the quota unit (R30, R31). -/
def takeClaim (l : Link) (seq : U16) (q : ClaimReq) (s : State) : State :=
  let n := q.count.toNat
  let owner := q.owner.toNat
  if n = 0 ∨ n > 65536 ∨ ownerNumberOk q.owner = false then s.answer l seq (claimRefusal .badField) else
  match s.volume? q.volume.toNat with
  | none => s.answer l seq (claimRefusal .unknownVolume)
  | some v =>
    if v.link ≠ l then s.answer l seq (claimRefusal .wrongLink) else
    if s.quota.claims.length ≥ Config.maxClaims ∨ s.openClaims l ≥ Config.maxLinkClaims then
      s.answer l seq (claimRefusal .claimTableFull)
    else
    match s.findOrCreate owner q.volume.toNat q.tags with
    | .error e => s.answer l seq (claimRefusal e)
    | .ok s =>
      match s.owner? owner with
      | none => s.answer l seq (claimRefusal .unknownOwner)
      | some r =>
        let room := r.room q.tags
        match decide' n room q.partialOk with
        | none => s.answer l seq (.claim .overLimit (some r.grace) 0 0 room 0)
        | some g =>
          let t := s.ticket
          let life := s.timers.claimLifetime
          let s := s.enterClaim owner g (.server l life)
          s.answer l seq (.claim (if g = n then .granted else .partialGrant) (some (s.graceOf owner)) t g room life)

/-- A SETTLE taken by the quota unit (R33). -/
def takeSettle (l : Link) (seq : U16) (q : SettleReq) (s : State) : State :=
  match s.claim? q.ticket.toNat with
  | some { ticket := t, owner := o, granted := g, kind := .server k r } =>
    let used := min q.used.toNat g
    let s := s.closeClaim { ticket := t, owner := o, granted := g, kind := .server k r } used
    s.answer l seq (.settle .settled (flagIf (g < q.used.toNat) clampedFlag) o used (((s.owner? o).map (·.held)).getD 0))
  | _ => s.answer l seq (.settle .stale 0 0 0 0)

/-- A RELEASE taken by the quota unit (R35). -/
def takeRelease (l : Link) (seq : U16) (q : ReleaseReq) (s : State) : State :=
  let k := q.count.toNat
  let owner := q.owner.toNat
  if k = 0 ∨ ownerNumberOk q.owner = false then s.answer l seq (.release .badField 0 0) else
  match s.owner? owner with
  | none => s.answer l seq (.release .unknownOwner 0 0)
  | some r =>
    let s := (s.onOwner owner fun r => { r with held := r.held - k }).evalGrace owner
    s.answer l seq (.release .released (flagIf (r.held < k) clampedFlag) (r.held - k))

/-! ### Claims of restores (R37, R38) -/

/-- A RESTORE claim of `w` blocks: the state after it and its ticket, or the refusal. With `w` = 0 no claim is made. -/
def State.restoreClaim (owner w : Nat) (tags : TagSet) (s : State) : Except Status (State × Option Nat) :=
  if w = 0 then .ok (s, none)
  else if s.quota.claims.length ≥ Config.maxClaims then .error .claimTableFull
  else
    match s.owner? owner with
    | none => .error .overLimit
    | some r =>
      match decide' w (r.room tags) false with
      | none => .error .overLimit
      | some _ => .ok (s.enterClaim owner w .restore, some s.ticket)

/-- Settle a RESTORE claim with the blocks its restore has written (R38). -/
def State.settleRestoreClaim (t : Option Nat) (written : Nat) (s : State) : State :=
  match t.bind s.claim? with
  | some c => s.closeClaim c written
  | none => s

/-! ### Lapses and grace expiries -/

/-- CLAIM_LAPSE: a SERVER claim whose remaining lifetime has run out lapses (R32, R34); otherwise the event does not
happen. -/
def execClaimLapse (ticket : U32) (s : State) : Host.Outcome State Fault Refusal :=
  .next (match s.claim? ticket.toNat with
    | some { ticket := t, owner := o, granted := g, kind := .server k 0 } =>
      s.lapse { ticket := t, owner := o, granted := g, kind := .server k 0 }
    | _ => s)

/-- GRACE_EXPIRY: the grace test on one owner, in every service state except LOADING (R25, R26). -/
def execGraceExpiry (owner : U32) (s : State) : Host.Outcome State Fault Refusal :=
  .next (if s.mgmt.service = .loading then s else s.testGrace owner.toNat)

end Sys2Proof.Machine
end

