-- ==== Sys2Proof/Machine/Catalogue.lean ====
section
/-! DEFINITION. The snapshot catalogue: volumes, the current interval, retirement and merge start, holds, the steps of
a take, and the requests of the chapter Snapshots and Intervals that need no other block. -/

namespace Sys2Proof.Machine

/-! ### The current interval (R48) -/

/-- Where a preservation taken now on a volume is recorded. -/
inductive Current
  /-- The volume has no snapshot: preservation is not needed. -/
  | noSnapshot
  /-- The newest is OPENING: the request waits. -/
  | opening
  /-- The interval of an epoch; while the newest is MERGING, its interval counts for "already preserved" too. -/
  | interval (epoch : Nat) (merging : Option Nat)
  /-- The newest is MERGING with no target: preservation is not needed. -/
  | noTarget
  deriving DecidableEq, Repr

/-- The current interval of a volume (R48). -/
def State.current (s : State) (v : Nat) : Current :=
  match s.newest v with
  | none => .noSnapshot
  | some x =>
    match x.state with
    | .opening => .opening
    | .live | .retirePending => .interval x.epoch none
    | .merging =>
      match (s.volume? v).bind (·.merge) |>.bind (·.target) with
      | some y => .interval y (some x.epoch)
      | none => .noTarget

/-- The block counts as already preserved in the current interval, and the entry by which it does: the current
interval's, or else the merging one's (R74). -/
def State.alreadyEntry (s : State) (v b : Nat) (c : Current) : Option Entry :=
  match c with
  | .interval e m => (s.entry? v b e).or (m.bind fun x => s.entry? v b x)
  | _ => none

/-! ### Retirement and merge start (R55 to R57, R59, R134) -/

/-- A WAITING roster entry whose target is retired becomes SKIPPED, with SNAPSHOT_SKIPPED, reason RETIRED (R134). -/
def State.skipRetiredTarget (v e : Nat) (s : State) : State :=
  match s.roster? v with
  | some r =>
    if r.pass = .waiting ∧ r.target = some e then
      (s.onRoster v fun r => { r with pass := .skipped, target := none }).raise (.snapshotSkipped v .retired e)
    else s
  | none => s

/-- The target of a merge of epoch `x`: the highest epoch below it in LIVE or RETIRE_PENDING (R57). -/
def State.mergeTarget (s : State) (v x : Nat) : Option Nat :=
  (s.snapsOf v).foldl (fun best y =>
    if y.epoch < x ∧ (y.state = .live ∨ y.state = .retirePending) then
      match best with
      | none => some y.epoch
      | some b => some (max b y.epoch)
    else best) none

/-- A merge begins: the snapshot becomes MERGING, the target is fixed and the cursor stands at the lowest block (R57). -/
def State.beginMerge (v x : Nat) (s : State) : State :=
  let target := s.mergeTarget v x
  ((s.onSnap v x fun r => { r with state := .merging }).onVolume v fun e =>
    { e with merge := some { epoch := x, target := target, cursor := 0, freed := 0 } }).skipRetiredTarget v x

/-- The merge start: with no snapshot of the volume MERGING, the unheld RETIRE_PENDING one of lowest epoch begins its
merge (R56). -/
def State.mergeStart (v : Nat) (s : State) : State :=
  if s.hasSnap v .merging then s
  else
    match leastBy (·.epoch) ((s.snapsOf v).filter fun x => x.state == .retirePending && x.holds.isEmpty) with
    | some x => s.beginMerge v x.epoch
    | none => s

/-- A LIVE snapshot is retired: to RETIRE_PENDING while it is held or the volume merges, else to MERGING (R55). -/
def State.retire (v e : Nat) (s : State) : State :=
  match s.snap? v e with
  | none => s
  | some x =>
    if x.holds.isEmpty ∧ s.hasSnap v .merging = false then s.beginMerge v e
    else (s.onSnap v e fun r => { r with state := .retirePending }).skipRetiredTarget v e

/-- Release a hold; a RETIRE_PENDING snapshot left without holds runs the merge start of its volume (R47). -/
def State.releaseHold (v e : Nat) (h : Holder) (s : State) : State :=
  match s.snap? v e with
  | none => s
  | some x =>
    if x.holds.contains h then
      let rest := x.holds.filter fun k => k != h
      let s := s.onSnap v e fun r => { r with holds := rest }
      if rest.isEmpty ∧ x.state = .retirePending then s.mergeStart v else s
    else s

/-! ### Taking a snapshot (R52) -/

/-- The steps of a take from its third check on: the state after it with the new epoch, or the refusal (R52). -/
def State.takeSnap (v : Nat) (kind : SnapKind) (label : Option (List Byte)) (s : State) : Except Status (State × Nat) :=
  if s.hasSnap v .opening then .error .busy
  else
    let e := s.nextEpoch v
    if (s.snapsOf v).length ≥ Config.maxVolumeSnapshots ∨ s.cat.snaps.length ≥ Config.maxSnapshots ∨ e = 0 then
      .error .snapshotFull
    else
      let x : Snapshot :=
        { volume := v, epoch := e, kind := kind, label := label, creation := none, state := .opening, holds := [],
          changeCount := 0 }
      .ok (s.onCat fun c =>
        { c with snaps := insertSorted snapBefore x c.snaps
                 nextEpoch := c.nextEpoch.setIfInBounds v (if e ≥ Config.maxWord then 0 else e + 1) }, e)

/-- A deferred take of the volume is due: a snapshot of it has become GONE, and the take is still to be made (R133). -/
def State.takeDue (s : State) (v : Nat) : Bool := (s.roster? v).any fun e => e.deferred && e.freed

/-- A management request is a TAKE SNAPSHOT of a volume. -/
def requestTakes (v : Nat) : MgmtRequest → Bool
  | .takeSnapshot volume _ => volume.toNat == v
  | _ => false

/-- The request of a received frame, if it is a good frame of the management link (R172). -/
def goodRequest : Received → Option MgmtRequest
  | .frame kind _ body =>
    match mgmtUnits kind with
    | some units => if body.length = 8 * units then mgmtRequestOf kind.toNat body else none
    | none => none
  | _ => none

/-- A manual TAKE SNAPSHOT of the volume is at hand: it is the request that the interpreter takes as the next command comes. With no
request waiting and room in the reply list, that is the request row itself, or the first good frame of an arrival; with 4 replies
waiting, it is the head of the request queue, which the sender's next frame lets it take (R172 to R174). This is where it and a
deferred take meet at the freed record (R133; DESIGN CHOICE, log entry 11). -/
def State.takeAtHand (s : State) (v : Nat) : Bool :=
  match s.mgmt.queue, s.pending with
  | [], .takeSnapshot _ volume label :: _ => s.mgmt.replies.length < 4 && requestTakes v (.takeSnapshot volume label)
  | [], .mgmtFrameArrival bytes :: _ =>
    s.mgmt.replies.length < 4 && ((receive (s.mgmt.begun ++ bytes)).findSome? goodRequest).any (requestTakes v)
  | (_, r) :: _, .mgmtSenderFree :: _ => s.mgmt.replies.length == 4 && requestTakes v r
  | _, _ => false

/-- An entry becomes SKIPPED with SNAPSHOT_SKIPPED; no epoch is concerned. -/
def State.skipEntry (v : Nat) (reason : Status) (s : State) : State :=
  (s.onRoster v fun e => { e with pass := .skipped, target := none, deferred := false, freed := false }).raise
    (.snapshotSkipped v reason 0)

/-- The deferred take of a volume is made, through the steps of R52 (R133). -/
def makeDeferred (v : Nat) (w : Work) : Work :=
  match w.st.takeSnap v .nightly none with
  | .ok (s, e) =>
    { w with st := s.onRoster v fun r => { r with target := some e, deferred := false, freed := false } }.push [.quiet v]
  | .error e => w.on (·.skipEntry v (if e = .busy then .opening else .full))

/-- TAKE SNAPSHOT (R45, R52). The catalogue tests the volume for quiet in the same event (R53). Taken before a deferred take
that is due, it has taken the freed place, and the deferred take is refused FULL; where it is refused itself, the deferred
take, which is due, is made (R133). -/
def takeTakeSnapshot (seq : U16) (volume : U32) (label : Option (List Byte)) (w : Work) : Work :=
  let s := w.st
  let v := volume.toNat
  if !operable s.mgmt.service then w.on (·.refuse seq 24 .wrongState) else
  let refused (st : Status) : Work :=
    let w := w.on (·.refuse seq 24 st)
    if s.takeDue v then makeDeferred v w else w
  if !volumeNumberOk volume || !labelOk label then refused .badField else
  if (s.volume? v).isNone then refused .unknownVolume else
  match s.takeSnap v .manual label with
  | .error e => refused e
  | .ok (s, e) =>
    let s := s.reply seq 24 .accepted 0 (.number e)
    { w with st := if s.takeDue v then s.skipEntry v .full else s }.push [.quiet v]

/-- RETIRE SNAPSHOT (R45, R55). -/
def takeRetireSnapshot (seq : U16) (volume epoch : U32) (s : State) : State :=
  let v := volume.toNat
  if !operable s.mgmt.service then s.refuse seq 25 .wrongState else
  if !volumeNumberOk volume then s.refuse seq 25 .badField else
  if (s.volume? v).isNone then s.refuse seq 25 .unknownVolume else
  match s.snap? v epoch.toNat with
  | none => s.refuse seq 25 .noSnapshot
  | some x =>
    match x.state with
    | .merging => s.refuse seq 25 .noSnapshot
    | .opening => s.refuse seq 25 .wrongState
    | .retirePending => s.reply seq 25 .accepted alreadyFlag .empty
    | .live => (s.retire v epoch.toNat).reply seq 25 .accepted 0 .empty

/-! ### Volumes -/

/-- DEFINE VOLUME (R43, R45). -/
def takeDefineVolume (seq : U16) (volume link : U32) (s : State) : State :=
  let v := volume.toNat
  if !configurable s.mgmt.service then s.refuse seq 22 .wrongState else
  if !volumeNumberOk volume then s.refuse seq 22 .badField else
  if h : link.toNat < 8 then
    let l : Link := ⟨link.toNat, h⟩
    match s.volume? v with
    | none =>
      (s.onCat fun c =>
        { c with volumes := insertSorted (fun a b => a.volume < b.volume)
                   { volume := v, link := l, waiting := [], merge := none } c.volumes }).reply seq 22 .ok 0 .empty
    | some _ => (s.onVolume v fun e => { e with link := l }).reply seq 22 .ok reboundFlag .empty
  else s.refuse seq 22 .badField

/-- A queued or active restore names the volume as its source or its target (R44). -/
def State.restoreNamesVolume (s : State) (v : Nat) : Bool :=
  (s.rest.queue ++ s.rest.active).any fun r => r.volume == v || r.fenceVolume == v

/-- REMOVE VOLUME (R44, R45). -/
def takeRemoveVolume (seq : U16) (volume : U32) (s : State) : State :=
  let v := volume.toNat
  if !configurable s.mgmt.service then s.refuse seq 23 .wrongState else
  if !volumeNumberOk volume then s.refuse seq 23 .badField else
  match s.volume? v with
  | none => s.refuse seq 23 .unknownVolume
  | some e =>
    if !(s.snapsOf v).isEmpty || s.pres.index.any (fun x => x.volume == v) || (s.roster? v).isSome
        || s.restoreNamesVolume v || !e.waiting.isEmpty then s.refuse seq 23 .inUse
    else (s.onCat fun c => { c with volumes := c.volumes.filter fun e => e.volume != v }).reply seq 23 .ok 0 .empty

/-! ### Reads -/

/-- LIST SNAPSHOTS (R45, R60). R60 names no status of a list: it is OK (DESIGN CHOICE, log entry 40). -/
def takeListSnapshots (seq : U16) (volume : U32) (s : State) : State :=
  let v := volume.toNat
  if s.mgmt.service = .loading then s.refuse seq 26 .wrongState else
  if !volumeNumberOk volume then s.refuse seq 26 .badField else
  match s.volume? v with
  | none => s.refuse seq 26 .unknownVolume
  | some e =>
    s.reply seq 26 .ok 0 (.snapshots
      { link := e.link, nextEpoch := s.nextEpoch v, merging := s.hasSnap v .merging,
        retirePending := (s.snapsOf v).countP fun x => x.state == .retirePending,
        listed := (s.snapsOf v).filter fun x => x.state != .merging })

/-- LOOKUP BLOCK (R45, R51). SLOT, FRESH and LIVE are a field, and the status beside them is OK (DESIGN CHOICE, log entry
40). -/
def takeLookupBlock (seq : U16) (volume block epoch : U32) (s : State) : State :=
  let v := volume.toNat
  if s.mgmt.service = .loading then s.refuse seq 27 .wrongState else
  if !volumeNumberOk volume then s.refuse seq 27 .badField else
  if (s.volume? v).isNone then s.refuse seq 27 .unknownVolume else
  match s.snap? v epoch.toNat with
  | none => s.refuse seq 27 .noSnapshot
  | some x =>
    match x.state with
    | .merging => s.refuse seq 27 .noSnapshot
    | .opening => s.refuse seq 27 .wrongState
    | .live | .retirePending => s.reply seq 27 .ok 0 (.lookup (s.lookup v block.toNat epoch.toNat))

end Sys2Proof.Machine
end

