-- ==== Sys2Proof/Machine/Preservation.lean ====
section
/-! DEFINITION. The preservation index and the slot pool: the bookkeeping of entries, the pool warnings with the rescue
timer, the taking of a preservation, and the pool requests (chapter Preservation and the Slot Pool). -/

namespace Sys2Proof.Machine

/-! ### Pool warnings and the rescue timer (R68, R69) -/

/-- The evaluation of both warning marks: POOL_LOW before POOL_EMPTY, the rescue timer started when below-low becomes
set and stopped when it becomes clear (R68, R69). -/
def State.evalPool (s : State) : State :=
  let p := s.pres
  let low := decide (p.free.length < p.lowMark)
  let none' := decide (0 < p.poolSize ∧ p.free.length = 0)
  let s := if low && !p.belowLow then s.raise (.poolLow p.free.length p.lowMark) else s
  let s := if none' && !p.empty then s.raise (.poolEmpty p.quarantine.length p.poolSize) else s
  s.onPres fun q =>
    { q with
      belowLow := low
      empty := none'
      rescueTimer :=
        if low && !p.belowLow then (if 0 < p.rescueMinutes then some p.rescueMinutes else none)
        else if low then q.rescueTimer else none }

/-! ### Making, freeing and settling entries (R64, R65, R72) -/

/-- Change a snapshot's change count. -/
def State.onChangeCount (v e : Nat) (f : Nat → Nat) (s : State) : State :=
  s.onSnap v e fun x => { x with changeCount := f x.changeCount }

/-- Raise or lower an owner's pinned count by one. -/
def State.onPinned (o : Option Nat) (f : Nat → Nat) (s : State) : State :=
  match o with
  | some n => s.onOwner n fun r => { r with pinned := f r.pinned }
  | none => s

/-- An entry is made: the index, the owner's pinned count and the interval's change count, and INDEX_LOW when it brings
the free count below 524,288 (R65, R72). The caller has taken its slot. -/
def State.makeEntry (e : Entry) (s : State) : State :=
  let s := ((s.onPres fun p => { p with index := insertSorted entryBefore e p.index }).onPinned e.owner? (· + 1)
    ).onChangeCount e.volume e.interval (· + 1)
  if s.indexFree < Config.indexLowMark ∧ s.pres.indexLow = false then
    (s.raise (.indexLow s.indexFree e.volume)).onPres fun p => { p with indexLow := true }
  else s

/-- An entry leaves the index: the counts of R72, and the INDEX_LOW mark clears once the free count is back (R65). The
caller places its slot. -/
def State.dropEntry (e : Entry) (s : State) : State :=
  let s := ((s.onPres fun p =>
      { p with index := p.index.filter fun x => !(x.volume == e.volume && x.block == e.block && x.interval == e.interval) }
      ).onPinned e.owner? (· - 1)).onChangeCount e.volume e.interval (· - 1)
  if s.indexFree ≥ Config.indexLowMark then s.onPres fun p => { p with indexLow := false } else s

/-- A slot joins the tail of the free-slot list (R66). -/
def State.slotToFree (n : Option Nat) (s : State) : State :=
  match n with
  | some k => s.onPres fun p => { p with free := p.free ++ [k] }
  | none => s

/-- A slot joins the tail of the quarantine list (R66). -/
def State.slotToQuarantine (n : Option Nat) (s : State) : State :=
  match n with
  | some k => s.onPres fun p => { p with quarantine := p.quarantine ++ [k] }
  | none => s

/-- The grace evaluation of the owner an entry names. -/
def State.evalPinOwner (o : Option Nat) (s : State) : State :=
  match o with
  | some n => s.evalGrace n
  | none => s

/-- The grace evaluations that the changes of an event have left, one for each owner: a second one for the same owner finds
nothing to change (R23, R24, R72). -/
def Work.evalOwners (w : Work) : Work :=
  { w with st := w.owners.foldl (fun s n => s.evalGrace n) w.st, owners := [] }

/-- The evaluations that the changes of an event have left: grace, owner by owner, and then the pool warnings (R23, R68,
R72). -/
def Work.evaluate (w : Work) : Work :=
  let w := w.evalOwners
  if w.pool then { w with st := w.st.evalPool, pool := false } else w

/-- An entry is freed by a merge or removed by a read fault: its slot goes to the free-slot list (R57, R72, R80). The
caller marks the evaluations. -/
def State.freeEntry (e : Entry) (s : State) : State := (s.dropEntry e).slotToFree e.slot?

/-- An entry is removed by a write fault: its slot goes to quarantine (R72, R80). The caller marks the evaluations. -/
def State.quarantineEntry (e : Entry) (s : State) : State := (s.dropEntry e).slotToQuarantine e.slot?

/-- The COPYING entry that a slot is being written for. -/
def State.copyingEntry (s : State) (slot : Nat) : Option Entry :=
  s.pres.index.find? fun e => e.copying && e.slot? == some slot

/-- A SLOT entry as SETTLED. -/
def Entry.settle (e : Entry) : Entry :=
  match e.kind with
  | .slot n o _ => { e with kind := .slot n o .settled }
  | .fresh => e

/-- The entry with a slot changes from COPYING to SETTLED (R79). -/
def State.settleEntry (slot : Nat) (s : State) : State :=
  s.onPres fun p =>
    { p with index := updateWhere (fun e => e.copying && e.slot? == some slot) Entry.settle p.index }

/-! ### The blocks of a preservation (R74 to R77, R82) -/

/-- What the taking of a preservation's blocks comes to. -/
inductive PreserveResult
  /-- Refused for capacity or by the owner search: the reason, the blocks needed and the free count that fell short. -/
  | refused (status : Status) (needed fellShort : Nat)
  /-- Answered at once: the counts of new and already blocks (R76). -/
  | answered (new already : Nat)
  /-- Made a pending preservation, with copies or without (R77, R76). -/
  | pending (copied : Bool)
  deriving DecidableEq, Repr

/-- Make one SLOT entry with the slot at the head of the free-slot list, COPYING, and its copy at the tail of the mover's
preservation queue (R77). -/
def State.makeSlotEntry (v interval owner : Nat) (forRestore : Option Nat) (s : State) (b : Nat) : State :=
  match s.pres.free with
  | [] => s
  | n :: rest =>
    let s := s.onPres fun p => { p with free := rest }
    let s := s.makeEntry { volume := v, block := b, interval := interval, kind := .slot n owner .copying }
    s.onMover fun m =>
      { m with preservationQ := m.preservationQ ++
          [{ op := .read, area := .volume v, address := b, length := 1, thenWrite := some (.pool, n),
             client := .preservation forRestore }] }

/-- Make one FRESH entry (R76). -/
def State.makeFreshEntry (v interval : Nat) (s : State) (b : Nat) : State :=
  s.makeEntry { volume := v, block := b, interval := interval, kind := .fresh }

/-- The gate of a request: the outstanding live reads of any of its blocks (R77, R96). -/
def State.gateOf (s : State) (v first count : Nat) : List ReadId :=
  (s.mover.liveReads.filter fun r => r.volume == v && first ≤ r.block && r.block < first + count).map (·.read)

/-- The restore a requester is. -/
def Requester.restoreId (w : Requester) : Option Nat :=
  match w with
  | .restore id => some id
  | .link _ _ => none

/-- Take the blocks of a preservation in the current interval: sort them into already and new, make the capacity checks
and the owner search, make the entries and copies, and answer at once or make a pending preservation (R74 to R77,
R82). Grace and the pool warnings are the caller's to evaluate. -/
def State.preserveBlocks (who : Requester) (v first count : Nat) (kind : PreserveKind) (owner : Nat) (cur : Current)
    (s : State) : PreserveResult × State :=
  match cur with
  | .interval interval _ =>
    let blocks := (List.range count).map (first + ·)
    let fresh := blocks.filter fun b => (s.alreadyEntry v b cur).isNone
    let waitsOn := blocks.filterMap fun b => (s.alreadyEntry v b cur).bind fun e =>
      if e.copying then e.slot?.map fun n => (b, n) else none
    let need := fresh.length
    let already := count - need
    if s.indexFree < need then (.refused .indexFull need s.indexFree, s)
    else if kind = PreserveKind.occupied ∧ s.pres.free.length < need then (.refused .poolEmpty need s.pres.free.length, s)
    else
      let searched :=
        if kind = PreserveKind.occupied ∧ 0 < need ∧ who.restoreId = none then s.findOrCreate owner v 0 else .ok s
      match searched with
      | .error e => (.refused e 0 0, s)
      | .ok s =>
        let gate := s.gateOf v first count
        let copies := decide (kind = PreserveKind.occupied ∧ 0 < need)
        let before := s.pres.free
        let s := fresh.foldl (match kind with
          | .occupied => State.makeSlotEntry v interval owner who.restoreId
          | .fresh => State.makeFreshEntry v interval) s
        let own := if copies then fresh.zip before else []
        if !copies && gate.isEmpty && waitsOn.isEmpty then (.answered need already, s)
        else
          (.pending copies, s.onPres fun p =>
            { p with pendings := p.pendings ++
                [{ who := who, counted := copies && who.restoreId.isNone, volume := v, first := first, count := count,
                   newCount := need, alreadyCount := already, own := own, waitsOn := waitsOn, faulted := [],
                   gate := gate }] })
  | _ => (.answered 0 0, s)

/-! ### PRESERVE from a file server (R54, R73 to R78) -/

/-- A PRESERVE reply with its volume, first block and counts of new and already blocks: that of a PRESERVE that is answered,
and, with both counts 0, BUSY and NOT_SERVING (R76, R188); NOT_NEEDED too keeps its volume and first block (DESIGN CHOICE, log
entry 64). -/
def preserveReply (q : PreserveReq) (st : Status) (new already : Nat) : ServerReply :=
  .preserve st q.volume.toNat q.first.toNat new already 0 0 []

/-- A PRESERVE refused by a check: every field after the status is zero, but for the blocks needed and the free count that
fell short of INDEX_FULL and POOL_EMPTY (R75, R187, R188). -/
def preserveRefusal (st : Status) (needed fellShort : Nat) : ServerReply := .preserve st 0 0 0 0 needed fellShort []

/-- The field checks of a PRESERVE (R73, step 1). -/
def preserveFieldsOk (q : PreserveReq) : Bool :=
  1 ≤ q.count.toNat && q.count.toNat ≤ 64 && q.first.toNat + q.count.toNat - 1 ≤ Config.maxWord
    && q.intent.isSome && q.kind.isSome
    && !(q.kind == some .occupied && !ownerNumberOk q.owner)
    && !(q.kind == some .fresh && q.intent == some .free)

/-- A block of the request lies inside the fence of an active restore on the volume (R73, step 6). -/
def State.fencedRange (s : State) (v first count : Nat) : Bool :=
  s.rest.active.any fun r => r.fenced && r.fenceVolume == v && overlaps first count r.fenceFirst r.count

/-- A request joins the tail of a volume's waiting list, or is answered BUSY when the list holds 64 (R54). -/
def State.joinWaiting (l : Link) (seq : U16) (q : PreserveReq) (v : Volume) (s : State) : State :=
  if v.waiting.length ≥ Config.maxWaiting then s.answer l seq (preserveReply q .busy 0 0)
  else s.onVolume v.volume fun e => { e with waiting := e.waiting ++ [{ link := l, seq := seq, req := q }] }

/-- A PRESERVE taken by the preservation unit, from an intake or handed back from a waiting list (R73 to R78). The grace
evaluations left by earlier changes of the event are made before it is taken, and its owner's as its copies are made: once for
each PRESERVE (R23, R77; DEDUCED beside R72, log entry 10). -/
def takePreserve (handedBack : Bool) (l : Link) (seq : U16) (q : PreserveReq) (w : Work) : Work :=
  let w := w.evalOwners
  let s := w.st
  let v := q.volume.toNat
  let refuse (st : Status) : Work := w.on (·.answer l seq (preserveRefusal st 0 0))
  let notNeeded : Work := w.on (·.answer l seq (preserveReply q .notNeeded 0 0))
  if !preserveFieldsOk q then refuse .badField else
  match s.volume? v with
  | none => refuse .unknownVolume
  | some e =>
    if e.link ≠ l then refuse .wrongLink else
    match s.current v with
    | .noSnapshot => notNeeded
    | cur =>
      if cur = .opening ∨ (handedBack = false ∧ e.waiting.isEmpty = false) then w.on (·.joinWaiting l seq q e) else
      if cur = .noTarget then notNeeded else
      if s.fencedRange v q.first.toNat q.count.toNat then refuse .fenced else
      match q.kind with
      | none => refuse .badField
      | some kind =>
        let owner := q.owner.toNat
        let (r, s) := s.preserveBlocks (.link l seq) v q.first.toNat q.count.toNat kind owner cur
        match r with
        | .refused st needed short => { w with st := s.answer l seq (preserveRefusal st needed short) }
        | .answered new already => { w with st := s.answer l seq (preserveReply q .preserved new already) }
        | .pending copied => if copied then (Work.mark (some owner) { w with st := s }).touch.evalOwners else { w with st := s }

/-! ### Pool requests -/

/-- SET POOL (R67). A new size is taken in STARTING and PAUSED only, where no STALLED restore retries (R114). -/
def takeSetPool (seq : U16) (q : SetPoolReq) (s : State) : State :=
  let refuse (st : Status) : State := s.refuse seq 28 st
  if s.mgmt.service = .saving ∨ s.mgmt.service = .loading then refuse .wrongState else
  let sizeCheck : Option Status :=
    match q.size with
    | none => none
    | some n =>
      if n.toNat > Config.maxEntries then some .badField
      else match s.mgmt.service with
        | .starting => none
        | .paused => if s.pres.index.any fun e => e.slot?.isSome then some .inUse else none
        | _ => some .wrongState
  match sizeCheck with
  | some st => refuse st
  | none =>
    let size := (q.size.map (·.toNat)).getD s.pres.poolSize
    let wanted := match q.lowMark with
      | some m => m.toNat
      | none => if q.size.isSome then size / 16 else s.pres.lowMark
    let low := min wanted size
    let rescue := match q.rescue with
      | some m => min m.toNat 1440
      | none => s.pres.rescueMinutes
    let clamped := size < wanted || (q.rescue.any fun m => 1440 < m.toNat)
    let changed := decide (rescue ≠ s.pres.rescueMinutes)
    let s := s.onPres fun p =>
      { p with
        poolSize := size
        free := if q.size.isSome then List.range size else p.free
        quarantine := if q.size.isSome then [] else p.quarantine
        lowMark := low
        rescueMinutes := rescue
        rescueTimer := if changed then none else p.rescueTimer }
    let s := s.evalPool
    let s := if changed && s.pres.belowLow && 0 < rescue then s.onPres fun p => { p with rescueTimer := some rescue } else s
    s.reply seq 28 .ok (flagIf clamped clampedFlag) (.pool size low rescue s.pres.free.length)

/-- CLEAR QUARANTINE (R71): the free count rises, and STALLED restores retry, unless the quarantine list was empty (R114). -/
def takeClearQuarantine (seq : U16) (w : Work) : Work :=
  let s := w.st
  if !configurable s.mgmt.service then w.on (·.refuse seq 29 .wrongState) else
  let n := s.pres.quarantine.length
  let s := s.onPres fun p => { p with free := p.free ++ p.quarantine, quarantine := [] }
  let w := Work.mark none { w with st := s.reply seq 29 .ok 0 (.moved n s.pres.free.length) }
  if n = 0 then w else w.push [.retries]

end Sys2Proof.Machine
end

