-- ==== Sys2Proof/Machine/Image.lean ====
section
/-! DEFINITION. The table image as bytes: what SAVE TABLES writes and what LOAD TABLES reads and checks (R18, R63, R85,
R138, R180, R191, R192). -/

namespace Sys2Proof.Machine

/-! ### Bytes -/

/-- A number as one byte. -/
def b1 (n : Nat) : Byte := BitVec.ofNat 8 n

/-- Bytes filled up with zeros to a length. -/
def padTo (n : Nat) (bs : List Byte) : List Byte := bs ++ List.replicate (n - bs.length) 0

/-- The blocks that bytes fill (R192). -/
def blocksFor (bytes : Nat) : Nat := (bytes + (Config.blockBytes - 1)) / Config.blockBytes

/-- Bytes filled up to whole blocks; no bytes take no block (R192). -/
def padBlocks (bs : List Byte) : List Byte := padTo (blocksFor bs.length * Config.blockBytes) bs

/-- `n` items of `size` bytes each. -/
def items (size : Nat) : Nat → List Byte → List (List Byte)
  | 0, _ => []
  | n + 1, bs => bs.take size :: items size n (bs.drop size)

/-! ### Codes of the image -/

/-- Classes (R187). -/
def classCode : OwnerClass → Nat
  | .student => 0
  | .staff => 1
  | .project => 2
  | .service => 3

/-- Grace states (R187). -/
def graceCode : GraceState → Nat
  | .within => 0
  | .grace _ => 1
  | .expired => 2

/-- Snapshot states in the image (R192); OPENING is never saved. -/
def snapStateCode : SnapState → Nat
  | .opening => 0
  | .live => 1
  | .retirePending => 2
  | .merging => 3

/-! ### Items (R192) -/

/-- An owner record's item. -/
def ownerItem (r : OwnerRecord) : List Byte :=
  [b1 (classCode r.cls)] ++ toBe 3 r.owner
    ++ [b1 (graceCode r.grace), b1 r.share, r.overTags, b1 (match r.origin with | .row i => i | .written => 255)]
    ++ toBe 4 r.hard ++ toBe 4 r.soft ++ toBe 4 r.held ++ toBe 4 r.pinned ++ toBe 4 r.overdraft
    ++ toBe 4 (match r.grace with | .grace d => d | _ => 0)

/-- A policy row's item; an empty row is all zero. -/
def rowItem (row : Option PolicyRow) : List Byte :=
  match row with
  | none => List.replicate 32 0
  | some r =>
    [1, b1 (classCode r.cls), b1 (r.volume.getD 255), r.tagCondition.getD 0, b1 r.share, r.overTags, 0, 0]
      ++ toBe 4 r.pattern.toNat ++ toBe 4 r.mask.toNat ++ toBe 4 r.hard ++ toBe 4 r.soft ++ toBe 4 r.overdraft
      ++ toBe 4 r.graceMinutes

/-- A volume entry's item. -/
def volumeItem (v : Volume) : List Byte := [b1 v.volume, b1 v.link.val, 0, 0, 0, 0, 0, 0]

/-- A snapshot record's item; bit 0 of byte 3 is set when it carries its roster base's DUPLICATION hold. -/
def snapItem (based : Bool) (x : Snapshot) : List Byte :=
  let label := x.label.getD []
  ([b1 x.volume, b1 (match x.kind with | .manual => 0 | .nightly => 1), b1 (snapStateCode x.state), b1 (if based then 1 else 0)] : List Byte)
    ++ toBe 4 x.epoch ++ toBe 4 (x.creation.getD 0) ++ toBe 4 x.changeCount
    ++ padTo 48 ([b1 label.length] ++ label)

/-- The pool settings item. -/
def poolItem (p : Preservation) : List Byte :=
  toBe 4 p.poolSize ++ toBe 4 p.lowMark ++ toBe 4 p.rescueMinutes ++ toBe 4 0

/-- An index entry's item; its state is not saved. -/
def entryItem (e : Entry) : List Byte :=
  [b1 e.volume, b1 (match e.kind with | .slot _ _ _ => 0 | .fresh => 1)] ++ toBe 3 (e.slot?.getD 0)
    ++ toBe 3 (e.owner?.getD 0) ++ toBe 4 e.block ++ toBe 4 e.interval

/-- Schedule settings in ten bytes. -/
def settingsItem (x : Settings) : List Byte :=
  toBe 2 x.cycle ++ toBe 2 x.point ++ toBe 2 x.window ++ toBe 2 x.length ++ toBe 2 x.reload

/-- The schedule item. -/
def scheduleItem (c : Schedule) : List Byte :=
  settingsItem c.live ++ settingsItem c.next
    ++ [b1 (if c.nextWritten then 1 else 0), b1 (match c.mode with | .repeating => 0 | .single => 1), 0, 0]
    ++ toBe 4 c.counter ++ toBe 4 0

/-- A roster entry's item. -/
def rosterItem (e : RosterEntry) : List Byte := [b1 e.volume, b1 e.keep, 0, 0] ++ toBe 4 e.base

/-! ### The image (R178, R191, R192) -/

/-- The counts of the tables as they stand. -/
def State.counts (s : State) : Counts :=
  { owners := s.quota.owners.length, rows := 24, volumes := s.cat.volumes.length, snaps := s.cat.snaps.length,
    entries := s.pres.index.length, free := s.pres.free.length, quarantine := s.pres.quarantine.length,
    roster := s.sched.roster.length }

/-- The bytes of each part, from the counts, in the order of R192. -/
def Counts.partBytes (c : Counts) : List Nat :=
  [32 * c.owners, 32 * c.rows, 192 + 8 * c.volumes, 64 * c.snaps, 16 * (1 + c.entries), 4 * c.free, 4 * c.quarantine,
   32 + 8 * c.roster]

/-- The extent: the header, the blocks of the parts, and the summary (R192). -/
def Counts.extent (c : Counts) : Nat := 1 + (c.partBytes.map blocksFor).sum + 1

/-- The eight counts in the header's order. -/
def Counts.bytes (c : Counts) : List Byte :=
  ([c.owners, c.rows, c.volumes, c.snaps, c.entries, c.free, c.quarantine, c.roster].map (toBe 4)).flatten

/-- The header block: the characters SVTC or SVTU, version 1, the counts, pool size, minute and extent (R191). -/
def headerBlock (complete : Bool) (c : Counts) (poolSize minute extent : Nat) : List Byte :=
  padTo Config.blockBytes
    (([83, 86, 84, if complete then 67 else 85] : List Byte) ++ toBe 2 1 ++ toBe 2 0 ++ c.bytes ++ toBe 4 poolSize ++ toBe 4 minute
      ++ toBe 4 extent)

/-- The summary block: the characters SVTE and the counts (R191). -/
def summaryBlock (c : Counts) : List Byte := padTo Config.blockBytes (([83, 86, 84, 69] : List Byte) ++ c.bytes)

/-- The DUPLICATION hold of a snapshot is its roster base's (R63). -/
def State.isBase (s : State) (x : Snapshot) : Bool :=
  s.sched.roster.any fun e => e.volume == x.volume && e.base == x.epoch

/-- The bytes of the parts as the tables stand (R192). -/
def State.parts (s : State) : List (List Byte) :=
  [(s.quota.owners.map ownerItem).flatten,
   (s.quota.policy.toArray.toList.map rowItem).flatten,
   (s.cat.nextEpoch.toArray.toList.map (toBe 4)).flatten ++ (s.cat.volumes.map volumeItem).flatten,
   (s.cat.snaps.map fun x => snapItem (s.isBase x) x).flatten,
   poolItem s.pres ++ (s.pres.index.map entryItem).flatten,
   (s.pres.free.map (toBe 4)).flatten,
   (s.pres.quarantine.map (toBe 4)).flatten,
   scheduleItem s.sched ++ (s.sched.roster.map rosterItem).flatten]

/-- The image from block 1 on: the parts and then the summary. -/
def State.imageBody (s : State) (c : Counts) : List Byte := (s.parts.map padBlocks).flatten ++ summaryBlock c

/-- The content of a SERVICE WRITE, taken from the tables at its issue (R88, R178). -/
def State.serviceContent (s : State) (address length : Nat) : List Byte :=
  match s.mgmt.job with
  | some (.save c poolSize minute extent step _ _ _ _) =>
    if address = 0 then headerBlock (step = .complete) c poolSize minute extent
    else padTo (length * Config.blockBytes)
      (((s.imageBody c).drop ((address - 1) * Config.blockBytes)).take (length * Config.blockBytes))
  | _ => []

/-! ### Reading an image (R180) -/

/-- What a header says. -/
structure Header where
  counts : Counts
  extent : Nat
  deriving DecidableEq, Repr

/-- Eight counts from bytes. -/
def countsOf (bs : List Byte) : Counts :=
  { owners := at' bs 0 4, rows := at' bs 4 4, volumes := at' bs 8 4, snaps := at' bs 12 4, entries := at' bs 16 4,
    free := at' bs 20 4, quarantine := at' bs 24 4, roster := at' bs 28 4 }

/-- The checks on block 0 (R180): the marker SVTC, version 1, no count above its table's capacity, an extent of at least
2. The header's pool size is neither bounded nor compared with the pool settings' (DESIGN CHOICE, log entry 23). -/
def readHeader (block : List Byte) : Option Header :=
  let c := countsOf (block.drop 8)
  let extent := at' block 48 4
  if block.take 4 = [83, 86, 84, 67] ∧ at' block 4 2 = 1 ∧ c.owners ≤ Config.maxOwners ∧ c.rows ≤ 24 ∧ c.volumes ≤ 48
      ∧ c.snaps ≤ Config.maxSnapshots ∧ c.entries ≤ Config.maxEntries ∧ c.free ≤ Config.maxEntries
      ∧ c.quarantine ≤ Config.maxEntries ∧ c.roster ≤ 48 ∧ 2 ≤ extent then
    some { counts := c, extent := extent }
  else none

/-- The bytes of the part at a place in the order of R192, from the image's block 1 on. -/
def partAt (c : Counts) (place : Nat) (body : List Byte) : List Byte :=
  let before := ((c.partBytes.take place).map blocksFor).sum
  (body.drop (before * Config.blockBytes)).take (c.partBytes.getD place 0)

/-- The checks of the group COUNTS (R180, R191): the summary's marker and counts, 24 rows, and no part running into the
summary's block. -/
def countsOk (h : Header) (body : List Byte) : Bool :=
  let summary := body.drop ((h.extent - 2) * Config.blockBytes)
  (summary.take 4 == [83, 86, 84, 69]) && (countsOf (summary.drop 4) == h.counts) && h.counts.rows == 24
    && h.counts.extent ≤ h.extent

/-- The tables an image holds, as read. -/
structure Tables where
  owners : List OwnerRecord
  policy : Vector (Option PolicyRow) 24
  nextEpoch : Vector Nat 48
  volumes : List Volume
  snaps : List Snapshot
  poolSize : Nat
  lowMark : Nat
  rescueMinutes : Nat
  index : List Entry
  free : List Nat
  quarantine : List Nat
  live : Settings
  next : Settings
  nextWritten : Bool
  mode : RunMode
  counter : Nat
  roster : List RosterEntry
  deriving DecidableEq, Repr

/-- An owner record read from its item; reserved is 0 (R18). -/
def readOwnerItem (bs : List Byte) : Option OwnerRecord :=
  let grace := match (byteAt bs 4).toNat with
    | 0 => some GraceState.within
    | 1 => some (.grace (at' bs 28 4))
    | 2 => some .expired
    | _ => none
  let origin := match (byteAt bs 7).toNat with
    | 255 => some Origin.written
    | i => if i < 24 then some (.row i) else none
  match classOf (byteAt bs 0).toNat, grace, origin with
  | some cls, some g, some o =>
    some { owner := at' bs 1 3, cls := cls, hard := at' bs 8 4, soft := at' bs 12 4, held := at' bs 16 4, reserved := 0,
           pinned := at' bs 20 4, share := (byteAt bs 5).toNat, overdraft := at' bs 24 4, overTags := byteAt bs 6,
           grace := g, origin := o }
  | _, _, _ => none

/-- A policy row read from its item with the checks of R18: `some none` is an empty row. The high byte of a pattern or care
mask above 24 bits is dropped, and the pattern's bits outside the mask are cleared (DESIGN CHOICE, log entry 23). -/
def readRowItem (bs : List Byte) : Option (Option PolicyRow) :=
  match (byteAt bs 0).toNat, classOf (byteAt bs 1).toNat with
  | 0, _ => some none
  | 1, some cls =>
    let vol := (byteAt bs 2).toNat
    let mask := BitVec.ofNat 24 (at' bs 12 4)
    let row : PolicyRow :=
      { pattern := BitVec.ofNat 24 (at' bs 8 4) &&& mask, mask := mask,
        volume := if vol = 255 then none else some vol,
        tagCondition := if byteAt bs 3 = 0 then none else some (byteAt bs 3), cls := cls, hard := at' bs 16 4,
        soft := at' bs 20 4, share := (byteAt bs 4).toNat, overdraft := at' bs 24 4, overTags := byteAt bs 5,
        graceMinutes := at' bs 28 4 }
    if (vol = 255 ∨ vol ≤ Config.maxVolume) ∧ row.soft ≤ row.hard ∧ row.share ≤ 16 ∧ row.overdraft ≤ 1048575
        ∧ row.graceMinutes ≤ Config.maxGraceMinutes then some (some row)
    else none
  | _, _ => none

/-- A volume entry read from its item. -/
def readVolumeItem (bs : List Byte) : Option Volume :=
  let v := (byteAt bs 0).toNat
  if h : (byteAt bs 1).toNat < 8 then
    if v ≤ Config.maxVolume then some { volume := v, link := ⟨(byteAt bs 1).toNat, h⟩, waiting := [], merge := none }
    else none
  else none

/-- A snapshot record read from its item; OPENING and GONE have no code. No check names the label's characters, nor bits 1 to 7
of byte 3, and any are loaded (DESIGN CHOICE, log entry 23). -/
def readSnapItem (bs : List Byte) : Option Snapshot :=
  let kind := match (byteAt bs 1).toNat with
    | 0 => some SnapKind.manual
    | 1 => some .nightly
    | _ => none
  let state := match (byteAt bs 2).toNat with
    | 1 => some SnapState.live
    | 2 => some .retirePending
    | 3 => some .merging
    | _ => none
  let n := (byteAt bs 16).toNat
  match kind, state with
  | some k, some st =>
    if n ≤ 24 ∧ 1 ≤ at' bs 4 4 then
      some { volume := (byteAt bs 0).toNat, epoch := at' bs 4 4, kind := k,
             label := if n = 0 then none else some ((bs.drop 17).take n), creation := some (at' bs 8 4), state := st,
             holds := if (byteAt bs 3).getLsbD 0 then [.duplication] else [], changeCount := at' bs 12 4 }
    else none
  | _, _ => none

/-- An index entry read from its item, SETTLED (R192). -/
def readEntryItem (bs : List Byte) : Option Entry :=
  let kind := match (byteAt bs 1).toNat with
    | 0 => some (EntryKind.slot (at' bs 2 3) (at' bs 5 3) .settled)
    | 1 => some .fresh
    | _ => none
  kind.map fun k => { volume := (byteAt bs 0).toNat, block := at' bs 8 4, interval := at' bs 12 4, kind := k }

/-- Schedule settings read from ten bytes. -/
def readSettings (bs : List Byte) : Settings :=
  { cycle := at' bs 0 2, point := at' bs 2 2, window := at' bs 4 2, length := at' bs 6 2, reload := at' bs 8 2 }

/-- A roster entry read from its item: SKIPPED, with no target and no deferral (R138). -/
def readRosterItem (bs : List Byte) : RosterEntry :=
  { volume := (byteAt bs 0).toNat, base := at' bs 4 4, keep := (byteAt bs 1).toNat, target := none, deferred := false,
    pass := .skipped }

/-- Each element stands before the next. -/
def ascending {α : Type} (before : α → α → Bool) : List α → Bool
  | [] => true
  | [_] => true
  | x :: y :: rest => before x y && ascending before (y :: rest)

/-- No element is listed twice. -/
def distinct (l : List Nat) : Bool :=
  match l with
  | [] => true
  | x :: xs => !xs.contains x && distinct xs

/-- The SLOT entries of raw items: whether the item is of kind SLOT, and the owner it names. -/
def rawPinOwner (bs : List Byte) : Option Nat := if byteAt bs 1 = 0 then some (at' bs 5 3) else none

/-- The owner and row checks of R18. -/
def readOwners (c : Counts) (body : List Byte) : Option (List OwnerRecord × List (Option PolicyRow)) :=
  let pins := (items 16 c.entries ((partAt c 4 body).drop 16)).filterMap rawPinOwner
  match (items 32 c.owners (partAt c 0 body)).mapM readOwnerItem, (items 32 24 (partAt c 1 body)).mapM readRowItem with
  | some owners, some rows =>
    if ascending (fun a b : OwnerRecord => a.owner < b.owner) owners
        && owners.all (fun r => r.soft ≤ r.hard && r.share ≤ 16 && r.overdraft ≤ 1048575
            && r.pinned == pins.countP (· == r.owner)
            && match r.origin with
              | .row i => (rows[i]?).join.isSome
              | .written => true)
        && pins.all (fun o => owners.any fun r => r.owner == o) then some (owners, rows)
    else none
  | _, _ => none

/-- The volume and snapshot checks of R63. -/
def readCatalogue (c : Counts) (body : List Byte) : Option (List Nat × List Volume × List Snapshot) :=
  let part := partAt c 2 body
  let counters := (items 4 48 part).map be
  let entries := items 16 c.entries ((partAt c 4 body).drop 16)
  let roster := (items 8 c.roster ((partAt c 7 body).drop 32)).map readRosterItem
  match (items 8 c.volumes (part.drop 192)).mapM readVolumeItem, (items 64 c.snaps (partAt c 3 body)).mapM readSnapItem with
  | some volumes, some snaps =>
    if ascending (fun a b : Volume => a.volume < b.volume) volumes && ascending snapBefore snaps
        && snaps.all (fun x =>
          volumes.any (fun v => v.volume == x.volume)
            && (counters.getD x.volume 0 == 0 || x.epoch < counters.getD x.volume 0)
            && (snaps.countP fun y => y.volume == x.volume) ≤ Config.maxVolumeSnapshots
            && (snaps.countP fun y => y.volume == x.volume && y.state == .merging) ≤ 1
            && x.changeCount == entries.countP (fun e => (byteAt e 0).toNat == x.volume && at' e 12 4 == x.epoch)
            && (!x.holds.contains .duplication || roster.any fun r => r.volume == x.volume && r.base == x.epoch))
        && roster.all (fun r => r.base == 0 ||
          snaps.any fun x => x.volume == r.volume && x.epoch == r.base && x.holds.contains .duplication) then
      some (counters, volumes, snaps)
    else none
  | _, _ => none

/-- The index and pool checks of R85, with slot conservation. -/
def readPool (c : Counts) (body : List Byte) (snaps : List Snapshot) :
    Option (Nat × Nat × Nat × List Entry × List Nat × List Nat) :=
  let part := partAt c 4 body
  let size := at' part 0 4
  let low := at' part 4 4
  let rescue := at' part 8 4
  let free := (items 4 c.free (partAt c 5 body)).map be
  let quarantine := (items 4 c.quarantine (partAt c 6 body)).map be
  match (items 16 c.entries (part.drop 16)).mapM readEntryItem with
  | some index =>
    let slots := index.filterMap Entry.slot? ++ free ++ quarantine
    if size ≤ Config.maxEntries && low ≤ size && rescue ≤ 1440 && ascending entryBefore index
        && index.all (fun e => snaps.any fun x => x.volume == e.volume && x.epoch == e.interval)
        && slots.all (fun n => n < size) && distinct slots && slots.length == size then
      some (size, low, rescue, index, free, quarantine)
    else none
  | none => none

/-- The schedule and roster checks of R138. -/
def readSchedule (c : Counts) (body : List Byte) (volumes : List Volume) :
    Option (Settings × Settings × Bool × RunMode × Nat × List RosterEntry) :=
  let part := partAt c 7 body
  let live := readSettings part
  let next := readSettings (part.drop 10)
  let written := byteAt part 20
  let mode := byteAt part 21
  let counter := at' part 24 4
  let roster := (items 8 c.roster (part.drop 32)).map readRosterItem
  if live.clamp == live && next.clamp == next && written.toNat ≤ 1 && mode.toNat ≤ 1 && counter < live.cycle
      && roster.all (fun r => volumes.any (fun v => v.volume == r.volume) && 1 ≤ r.keep && r.keep ≤ 14)
      && distinct (roster.map (·.volume)) then
    some (live, next, written == 1, if mode = 0 then .repeating else .single, counter, roster)
  else none

/-- A list of a fixed length as a vector, filled up with a default. -/
def vectorOf {α : Type} (n : Nat) (d : α) (l : List α) : Vector α n := ⟨⟨(List.range n).map fun i => l.getD i d⟩, by simp⟩

/-- The checks of R180 in their order on the blocks 1 and on; the first group that fails is the error. -/
def readImage (h : Header) (body : List Byte) : Except CheckGroup Tables :=
  let c := h.counts
  if !countsOk h body then .error .counts else
  match readOwners c body with
  | none => .error .owners
  | some (owners, rows) =>
    match readCatalogue c body with
    | none => .error .catalogue
    | some (counters, volumes, snaps) =>
      match readPool c body snaps with
      | none => .error .pool
      | some (size, low, rescue, index, free, quarantine) =>
        match readSchedule c body volumes with
        | none => .error .schedule
        | some (live, next, written, mode, counter, roster) =>
          .ok { owners := owners, policy := vectorOf 24 none rows, nextEpoch := vectorOf 48 1 counters,
                volumes := volumes, snaps := snaps, poolSize := size, lowMark := low, rescueMinutes := rescue,
                index := index, free := free, quarantine := quarantine, live := live, next := next,
                nextWritten := written, mode := mode, counter := counter, roster := roster }

end Sys2Proof.Machine
end

