-- ==== Sys2Proof/Machine/Mover.lean ====
section
/-! DEFINITION. The mover: the waiting queues, the tag table, the arbiter, the issue of phases, the outstanding-live-read
list, the drain and the discarding of RESTART (chapter The Mover and the Store Channel). -/

namespace Sys2Proof.Machine

/-! ### Handing operations over (R87, R96) -/

/-- A restore hands an operation to its queue (R87). -/
def State.handRestore (id : Nat) (op : StoreOp) (s : State) : State :=
  s.onMover fun m =>
    { m with restoreQs := updateWhere (fun q => q.id == id) (fun q => { q with ops := q.ops ++ [op] }) m.restoreQs }

/-- The duplication engine hands a read over; a VOLUME read enters the outstanding-live-read list in the same event
(R96). -/
def State.handDuplication (r : ReadId) (area : Area) (address : Nat) (s : State) : State :=
  s.onMover fun m =>
    { m with
      duplicationQ := m.duplicationQ ++
        [{ op := .read, area := area, address := address, length := 1, thenWrite := none, client := .duplication r }]
      liveReads := match area with
        | .volume v => m.liveReads ++ [{ volume := v, block := address, read := r, tag := none }]
        | _ => m.liveReads }

/-- The interpreter hands a SERVICE operation over (R98). -/
def State.handService (op : OpKind) (address length : Nat) (s : State) : State :=
  s.onMover fun m =>
    { m with serviceQ := m.serviceQ ++
        [{ op := op, area := .tables, address := address, length := length, thenWrite := none, client := .service }] }

/-! ### The tag table (R86, R88) -/

/-- The operation issued on a tag. -/
def Mover.tag (m : Mover) (t : Fin 32) : Option Issued := m.tags.get t

/-- The lowest-numbered free tag (R88). -/
def Mover.freeTag? (m : Mover) : Option (Fin 32) := (List.finRange 32).find? fun t => (m.tag t).isNone

/-- The issued operations, in tag order. -/
def Mover.issued (m : Mover) : List Issued := m.tags.toArray.toList.filterMap id

/-- The tags that a kind of client holds (R86). -/
def Mover.tagsHeld (m : Mover) (p : Client → Bool) : Nat := m.issued.countP fun i => p i.op.client

/-- The client is PRESERVATION. -/
def Client.isPreservation : Client → Bool
  | .preservation _ => true
  | _ => false

/-- The client is a restore. -/
def Client.isRestore : Client → Bool
  | .restore _ _ => true
  | _ => false

/-- The client is DUPLICATION. -/
def Client.isDuplication : Client → Bool
  | .duplication _ => true
  | _ => false

/-- The client is SERVICE. -/
def Client.isService : Client → Bool
  | .service => true
  | _ => false

/-- Send the request frame of a phase on a tag and record the phase as issued (R88, R90). -/
def State.sendPhase (t : Fin 32) (op : StoreOp) (phase : Phase) (kind : OpKind) (area : Area) (address length : Nat)
    (content : List Byte) (s : State) : State :=
  let seq := s.mover.storeSeq
  (s.send (.store seq { tag := t, op := kind, area := area, address := address, length := length, content := content })
    ).onMover fun m =>
    { m with
      storeSeq := m.storeSeq + 1
      tags := m.tags.set t.val (some { op := op, phase := phase, sentSeq := seq, remaining := s.timers.storeTimeout })
      liveReads := match op.client with
        | .duplication r => updateWhere (fun x => x.read == r) (fun x => { x with tag := some t }) m.liveReads
        | _ => m.liveReads }

/-- Issue an operation on the lowest-numbered free tag (R88). The content of a SERVICE WRITE is taken now. -/
def State.issue (t : Fin 32) (op : StoreOp) (s : State) : State :=
  let content := match op.op, op.client with
    | .write, .service => s.serviceContent op.address op.length
    | _, _ => []
  s.sendPhase t op .first op.op op.area op.address op.length content

/-- Free a tag. -/
def State.freeTag (t : Fin 32) (s : State) : State := s.onMover fun m => { m with tags := m.tags.set t.val none }

/-! ### The arbiter (R93 to R95, R98) -/

/-- The restore that wins a grant: round robin in restore-id order from the one last granted (R95). -/
def Mover.nextRestore (m : Mover) : Option RestoreQueue :=
  let waiting := m.restoreQs.filter fun q => !q.ops.isEmpty
  (leastBy (·.id) (waiting.filter fun q => m.lastRestore < q.id)).or (leastBy (·.id) waiting)

/-- Take the head of a restore's queue. -/
def Mover.popRestore (id : Nat) (m : Mover) : Mover :=
  { m with restoreQs := updateWhere (fun q => q.id == id) (fun q => { q with ops := q.ops.tail }) m.restoreQs
           lastRestore := id }

/-- The rotation's step under the pointer is RESTORE: step 4 (R94). -/
def Mover.restoreStep (m : Mover) : Bool := m.rotation == 3

/-- What the arbiter grants next: the operation, and the mover with it taken from its queue (R93, R98). -/
def Mover.grant (m : Mover) (windowOpen : Bool) : Option (StoreOp × Mover) :=
  match m.mode with
  | .drained =>
    match m.serviceQ with
    | [] => none
    | op :: rest => some (op, { m with serviceQ := rest })
  | _ =>
    let restore (m : Mover) : Option (StoreOp × Mover) :=
      match m.nextRestore with
      | none => none
      | some q =>
        match q.ops with
        | [] => none
        | op :: _ => some (op, m.popRestore q.id)
    match m.preservationQ, decide (m.tagsHeld Client.isPreservation < 24) with
    | op :: rest, true => some (op, { m with preservationQ := rest })
    | _, _ =>
      match m.nextRestore, m.duplicationQ with
      | none, [] => none
      | none, op :: rest => some (op, { m with duplicationQ := rest })
      | some _, [] => restore m
      | some _, op :: rest =>
        if windowOpen then
          let m' := { m with rotation := m.rotation + 1 }
          if m.restoreStep then restore m' else some (op, { m' with duplicationQ := rest })
        else restore m

/-- Grant tags in turn, as many as the test allows; the fuel is the number of tags (R93). -/
def State.grants : Nat → State → State
  | 0, s => s
  | n + 1, s =>
    match s.mover.freeTag?, s.mover.grant s.sched.windowOpen with
    | some t, some (op, m) => State.grants n (({ s with mover := m } : State).issue t op)
    | _, _ => s

/-- Every queue but the service queue is empty and every tag is free (R97). -/
def Mover.idle (m : Mover) : Bool :=
  m.issued.isEmpty && m.preservationQ.isEmpty && m.restoreQs.all (fun q => q.ops.isEmpty) && m.duplicationQ.isEmpty

/-- The mover becomes DRAINED, and grants the SERVICE operations that have waited for it (R97, R98). -/
def State.enterDrained (s : State) : State := State.grants 32 (s.onMover fun m => { m with mode := .drained })

/-- The end of a drain: the mover reports DRAINED, and the service state becomes PAUSED (R97, R177). -/
def State.drainTest (s : State) : State :=
  if s.mover.mode = .draining ∧ s.mover.idle = true then
    let s := s.enterDrained
    if s.mgmt.service = .pausing then s.enterService .paused .drain else s
  else s

/-- The mover's part at the end of an event that placed an operation or freed a tag (R93, R97). -/
def State.moverEnd (s : State) : State := (State.grants 32 s).drainTest

/-! ### Faults and discarding (R92, R99) -/

/-- STORE_FAULT for the phase of an operation that faulted (R92). The WRITE phase of a copy is named by its own area and address,
with the operation of the record, READ (DESIGN CHOICE, log entry 54). -/
def State.raiseStoreFault (i : Issued) (cause : FaultCause) (s : State) : State :=
  match i.phase, i.op.thenWrite with
  | .copyWrite, some (area, address) => s.raise (.storeFault area address i.op.op i.phase i.op.client cause)
  | _, _ => s.raise (.storeFault i.op.area i.op.address i.op.op i.phase i.op.client cause)

/-- RESTART drains the mover by discarding (R99). -/
def State.discardMover (s : State) : State :=
  s.onMover fun m =>
    { m with tags := Vector.replicate 32 none, preservationQ := [], restoreQs := [], duplicationQ := [], serviceQ := [],
             liveReads := [], mode := .drained, rotation := 0, lastRestore := 0 }

/-! ### Work of a volume in hand (R53) -/

/-- An operation is a restore's WRITE or FREE to a volume. -/
def StoreOp.restoreWritesTo (v : Nat) (op : StoreOp) : Bool :=
  op.client.isRestore && match op.op, op.thenWrite with
    | .free, _ => op.area == .volume v
    | _, some (area, _) => area == .volume v
    | _, none => false

/-- The mover has a restore's WRITE or FREE to the volume, waiting or issued (R53, R111). -/
def Mover.restoreWriting (m : Mover) (v : Nat) : Bool :=
  m.restoreQs.any (fun q => q.ops.any (StoreOp.restoreWritesTo v)) || m.issued.any fun i => i.op.restoreWritesTo v

/-- The volume is quiet (R53). -/
def State.isQuiet (s : State) (v : Nat) : Bool :=
  !s.pres.index.any (fun e => e.volume == v && e.copying)
    && !s.pres.pendings.any (fun p => p.volume == v)
    && !s.mover.restoreWriting v

end Sys2Proof.Machine
end

