-- ==== Sys2Proof/Machine/Restores.lean ====
section
/-! DEFINITION. The restore engine: requesting, the scheduler, the sweep and admission, fencing, the walk, stalls, endings
and the closing of a restore (chapter Restores). -/

namespace Sys2Proof.Machine

/-! ### Closing (R115, R116) -/

/-- The state a restore ends in. -/
def RestoreOutcome.state : RestoreOutcome → RestoreState
  | .done => .done
  | .failed _ => .failed
  | .cancelled => .cancelled

/-- A record as it enters the ended list: its claim and its stall are gone (R102). -/
def Restore.closed (o : RestoreOutcome) (r : Restore) : Restore :=
  { r with state := o.state, outcome := some o, ticket := none, stall := none, lastRefusal := none, inProgress := [] }

/-- A record enters the ended list, which keeps the 16 latest (R102). -/
def State.enterEnded (r : Restore) (s : State) : State :=
  s.onRest fun e =>
    let l := e.ended ++ [r]
    { e with ended := l.drop (l.length - 16) }

/-- The closing of an active restore, steps 1 to 5: the fence goes with the active place (R116). -/
def State.closeRestore (r : Restore) (o : RestoreOutcome) (s : State) : State :=
  let s := (s.releaseHold r.volume r.epoch (.restore r.id)).settleRestoreClaim r.ticket r.written
  let s := (s.onRest fun e => { e with active := e.active.filter fun a => a.id != r.id }).enterEnded (r.closed o)
  (s.onMover fun m => { m with restoreQs := m.restoreQs.filter fun q => q.id != r.id }).raise
    (.restoreEnded r.id o r.written r.freed r.preserved)

/-- The closing with its last step, the scheduler (R116). The grace evaluations left are made before the quota unit settles
the restore's claim, if it has one (R23). -/
def closeRestore (r : Restore) (o : RestoreOutcome) (w : Work) : Work :=
  let w := if r.ticket.isSome then w.evalOwners else w
  (w.on (·.closeRestore r o)).push [.schedule]

/-- A restore in ENDING with no block in progress closes (R115). -/
def closeIfEnded (id : Nat) (w : Work) : Work :=
  match w.st.active? id with
  | some r =>
    match r.state, r.inProgress, r.outcome with
    | .ending, [], some o => closeRestore r o w
    | _, _, _ => w
  | none => w

/-- A restore in COPYING or STALLED enters ENDING with its outcome, and closes if no block is in progress (R115). -/
def enterEnding (id : Nat) (o : RestoreOutcome) (w : Work) : Work :=
  match w.st.active? id with
  | some r =>
    if r.state = .copying ∨ r.state = .stalled then
      closeIfEnded id (w.on (·.onActive id fun r => { r with state := .ending, outcome := some o, stall := none }))
    else w
  | none => w

/-! ### Blocks in progress (R111 to R113) -/

/-- The target block of a source block (R102). -/
def Restore.targetOf (r : Restore) (b : Nat) : Nat := r.fenceFirst + (b - r.first)

/-- The source block of a block of the fence range. -/
def Restore.sourceOf (r : Restore) (t : Nat) : Nat := r.first + (t - r.fenceFirst)

/-- A block takes a step: it enters the list of blocks in progress, or changes its step there. -/
def Restore.setStep (b : Nat) (step : BlockStep) (r : Restore) : Restore :=
  { r with inProgress := if r.inProgress.any (fun p => p.1 == b) then
      updateWhere (fun p => p.1 == b) (fun p => (p.1, step)) r.inProgress else r.inProgress ++ [(b, step)] }

/-- A preservation of a block has been answered without a fault: the operation for the block goes to the mover (R111,
R112). -/
def State.handBlock (id b new : Nat) (found : Option Nat) (s : State) : State :=
  match s.active? id with
  | none => s
  | some r =>
    let v := r.fenceVolume
    let op : StoreOp := match found with
      | some n =>
        { op := .read, area := .pool, address := n, length := 1, thenWrite := some (.volume v, r.targetOf b),
          client := .restore id b }
      | none =>
        { op := .free, area := .volume v, address := r.targetOf b, length := 1, thenWrite := none,
          client := .restore id b }
    (s.onActive id fun r =>
      { r.setStep b (match found with | some _ => .writing | none => .freeing) with preserved := r.preserved + new }
      ).handRestore id op

/-- A block finishes with its count; the walk is taken again, or the restore closes (R113, R115). The walk of a STALLED
restore is its retry: each finish takes it too (DEDUCED from R113, log entry 42). -/
def finishBlock (id b : Nat) (count : Restore → Restore) (w : Work) : Work :=
  let w := w.on (·.onActive id fun r => count { r with inProgress := r.inProgress.filter fun p => p.1 != b })
  (closeIfEnded id w).push [.walk id]

/-- A block finishes by a fault: the restore enters ENDING with FAILED STORE_FAULT (R111, R113). -/
def faultBlock (id b : Nat) (w : Work) : Work :=
  enterEnding id (.failed .storeFault) (finishBlock id b (fun r => r) w)

/-! ### The walk (R110 to R112, R114) -/

/-- A walk that is not refused leaves the restore in COPYING with no stall (R114). -/
def Restore.resumed (cursor : Nat) (r : Restore) : Restore :=
  { r with state := .copying, stall := none, lastRefusal := none, cursor := some cursor }

/-- A block start is refused for capacity: a COPYING restore enters STALLED with the stall limit in force, a STALLED one
keeps its remaining minutes (R114). -/
def State.stall (id b : Nat) (reason : Status) (s : State) : State :=
  s.onActive id fun r =>
    { r with state := .stalled, cursor := some b, lastRefusal := some reason,
             stall := match r.stall with | some k => some k | none => some s.timers.stallLimit }

/-- Start the block at the cursor by a restore preservation of its target block (R82, R111, R112). -/
def State.startBlock (r : Restore) (b : Nat) (found : Option Nat) (s : State) : State :=
  let kind := match r.mode with
    | .inPlace => PreserveKind.occupied
    | .side _ _ => .fresh
  let go (s : State) : State := s.onActive r.id (Restore.resumed (b + 1))
  match s.current r.fenceVolume with
  | .interval e m =>
    let (answer, s) := s.preserveBlocks (.restore r.id) r.fenceVolume (r.targetOf b) 1 kind r.owner (.interval e m)
    match answer with
    | .refused st _ _ => s.stall r.id b st
    | .answered new _ => (go s).handBlock r.id b new found
    | .pending _ => (go s).onActive r.id (Restore.setStep b (.preserving found))
  | _ => (go s).handBlock r.id b 0 found

/-- The granted count of a restore's claim, 0 when no claim was made (R112). -/
def Restore.granted (r : Restore) : Nat :=
  match r.ticket, r.plan with
  | some _, some p => p.w
  | _, _ => 0

/-- One block of the walk: the blocks whose lookup is LIVE are passed over, and the next one is started, skipped or
waited at; `none` when the walk stops (R110, R112). -/
def State.walkBlock (id : Nat) (s : State) : State × Bool :=
  match s.active? id with
  | none => (s, false)
  | some r =>
    match r.cursor with
    | none => (s, false)
    | some c =>
      let stop := r.first + r.count
      if s.mgmt.service ≠ .serving ∨ ¬(r.state = .copying ∨ r.state = .stalled) ∨ 16 ≤ r.inProgress.length ∨ stop ≤ c then
        (s, false)
      else if s.hasSnap r.fenceVolume .opening then (s.onActive id (Restore.resumed c), false)
      else
        match s.nextBlock r.volume c (stop - 1) r.epoch none with
        | none => (s.onActive id (Restore.resumed stop), false)
        | some b =>
          let past (s : State) : State × Bool := (s.onActive id (Restore.resumed (b + 1)), true)
          match s.lookup r.volume b r.epoch, r.mode with
          | .live, _ => past s
          | .fresh _, .side _ _ => past s
          | .fresh _, .inPlace => (s.startBlock r b none, true)
          | .slot _ _ _ .copying, _ => (s.onActive id (Restore.resumed b), false)
          | .slot n _ _ .settled, .inPlace => (s.startBlock r b (some n), true)
          | .slot n _ _ .settled, .side _ _ =>
            if r.written + r.inProgress.length < r.granted then (s.startBlock r b (some n), true)
            else
              let (s, more) := past s
              (s.onActive id fun r => { r with skipped := r.skipped + 1 }, more)

/-- The walk, block after block, until it stops or stalls; the fuel is more than the blocks with entries (R110). -/
def State.walkBlocks (id : Nat) : Nat → State → State
  | 0, s => s
  | n + 1, s =>
    let (s, more) := s.walkBlock id
    if more && (s.active? id).any (fun r => r.state == .copying) then State.walkBlocks id n s else s

/-- A restore takes its walk, or a STALLED one its retry; slots that it took leave the owner's grace and the pool warnings
to be evaluated; with the range behind it and no block in progress, the restore closes DONE (R72, R110, R114). -/
def takeWalk (id : Nat) (w : Work) : Work :=
  match w.st.active? id with
  | none => w
  | some r =>
    if r.state = .copying ∨ r.state = .stalled then
      let s := State.walkBlocks id (w.st.pres.index.length + 2) w.st
      let w := if s.pres.free.length = w.st.pres.free.length then { w with st := s }
        else Work.mark (some r.owner) { w with st := s }
      let w := w.touch
      match s.active? id with
      | some r =>
        if r.state = .copying ∧ r.inProgress = [] ∧ r.cursor.any (fun c => r.first + r.count ≤ c) = true then
          closeRestore r .done w
        else w
      | none => w
    else w

/-- Every COPYING restore takes its walk (R110). -/
def takeWalks (w : Work) : Work :=
  w.push ((w.st.rest.active.filter fun r => r.state == .copying).map fun r => .walk r.id)

/-- Every STALLED restore makes its retry (R114). -/
def takeRetries (w : Work) : Work :=
  w.push ((w.st.rest.active.filter fun r => r.state == .stalled).map fun r => .walk r.id)

/-! ### Answers to a restore's preservations and operations (R111 to R113, R115) -/

/-- A restore's pending preservation is answered. -/
def restoreAnswered (id : Nat) (p : PendingPreserve) (w : Work) : Work :=
  match w.st.active? id with
  | none => w
  | some r =>
    let b := r.sourceOf p.first
    match r.inProgress.find? fun x => x.1 == b with
    | some (_, .preserving found) =>
      if !p.faulted.isEmpty then faultBlock id b w
      else if r.state = .ending then finishBlock id b (fun r => { r with preserved := r.preserved + p.newCount }) w
      else (w.on (·.handBlock id b p.newCount found)).touch
    | _ => w

/-- The mover hands over the outcome of a restore's operation for a source block; the catalogue then tests the volume for
quiet (R92, R113). -/
def restoreOutcome (id b : Nat) (op : OpKind) (faulted : Bool) (w : Work) : Work :=
  let v := (w.st.active? id).map Restore.fenceVolume
  let w :=
    if faulted then faultBlock id b w
    else finishBlock id b (fun r => match op with
      | .free => { r with freed := r.freed + 1 }
      | _ => { r with written := r.written + 1 }) w
  match v with
  | some v => w.push [.quiet v]
  | none => w

/-! ### The scheduler (R105) -/

/-- The fence range of a restore overlaps that of another on the same volume. -/
def Restore.clashes (a b : Restore) : Bool :=
  a.fenceVolume == b.fenceVolume && overlaps a.fenceFirst a.count b.fenceFirst b.count

/-- The queued restore that takes the next place: of those that clash with no active one, the oldest URGENT, or else the
oldest ORDINARY. -/
def State.nextPlaced (s : State) : Option Restore :=
  let fit := s.rest.queue.filter fun r => !s.rest.active.any r.clashes
  (fit.find? fun r => r.urgency == .urgent).or fit.head?

/-- One place is given, while SERVING and a place is free; the scheduler repeats after the restore's sweep. -/
def takeSchedule (w : Work) : Work :=
  let s := w.st
  if s.mgmt.service = .serving ∧ s.rest.active.length < 4 then
    match s.nextPlaced with
    | none => w
    | some r =>
      let s := s.onRest fun e =>
        { e with queue := e.queue.filter fun q => q.id != r.id, active := e.active ++ [{ r with state := .planning }] }
      let s := s.onMover fun m => { m with restoreQs := m.restoreQs ++ [{ id := r.id, ops := [] }] }
      { w with st := s }.push [.sweep r.id, .schedule]
  else w

/-! ### The sweep and admission (R106 to R108) -/

/-- An ascending list without its repeats. -/
def withoutRepeats : List Nat → List Nat
  | [] => []
  | x :: xs =>
    match withoutRepeats xs with
    | [] => [x]
    | y :: ys => if x = y then y :: ys else x :: y :: ys

/-- The volume's block has an entry in the volume's current interval. -/
def State.inCurrent (s : State) (v b : Nat) : Bool :=
  match s.current v with
  | .interval e _ => (s.entry? v b e).isSome
  | _ => false

/-- The volume has a current interval. -/
def State.hasCurrent (s : State) (v : Nat) : Bool :=
  match s.current v with
  | .interval _ _ => true
  | _ => false

/-- The plan counts of a sweep (R106). -/
def State.sweepPlan (s : State) (r : Restore) : Plan :=
  let blocks := withoutRepeats
    (((s.entriesIn r.volume r.epoch none).filter fun e => r.first ≤ e.block && e.block < r.first + r.count).map (·.block))
  let isSlot (b : Nat) : Bool := match s.lookup r.volume b r.epoch with
    | .slot _ _ _ _ => true
    | _ => false
  let slots := blocks.filter isSlot
  { w := slots.length
    v := blocks.length - slots.length
    k := match r.mode with
      | .inPlace => blocks.countP fun b => !s.inCurrent r.volume b
      | .side v _ => if s.hasCurrent v then slots.countP fun b => !s.inCurrent v (r.targetOf b) else 0 }

/-- Admission of a restore with its plan: the state after it and its claim's ticket, or the reason it fails (R107, R108). -/
def State.admission (r : Restore) (p : Plan) (s : State) : Except Status (State × Option Nat) :=
  if s.indexFree < p.k then .error .indexFull
  else
    match r.mode with
    | .inPlace =>
      let floor := match r.urgency with
        | .ordinary => s.pres.lowMark
        | .urgent => 0
      if s.pres.free.length < p.k + floor then .error .poolEmpty else .ok (s, none)
    | .side _ _ => s.restoreClaim r.owner p.w r.tags

/-- The sweep of a PLANNING restore with its admission: it enters FENCING, or closes FAILED (R106, R109). The grace
evaluations left are made before the quota unit decides on a claim (R23). -/
def takeSweep (id : Nat) (w : Work) : Work :=
  match w.st.active? id with
  | none => w
  | some r =>
    if r.state = .planning ∧ w.st.mgmt.service = .serving ∧ w.st.hasSnap r.fenceVolume .opening = false then
      let w := match r.mode with
        | .inPlace => w
        | .side _ _ => w.evalOwners
      let s := w.st
      let p := s.sweepPlan r
      match s.admission r p with
      | .error e => closeRestore { r with plan := some p } (.failed e) w
      | .ok (s, ticket) =>
        { w with st := s.onActive id fun r => { r with plan := some p, ticket := ticket, state := .fencing } }.push
          [.fencing r.fenceVolume]
    else w

/-- A pending preservation from a server link names a block inside a restore's fence (R109). -/
def PendingPreserve.inFence (p : PendingPreserve) (r : Restore) : Bool :=
  p.who.restoreId.isNone && p.volume == r.fenceVolume && overlaps p.first p.count r.fenceFirst r.count

/-- The FENCING restores of a volume with no server preservation left in their fences (R109). -/
def State.fenceClear (v : Nat) (s : State) : List Restore :=
  s.rest.active.filter fun r =>
    r.state == .fencing && r.fenceVolume == v && !s.pres.pendings.any fun p => p.inFence r

/-- The fencing test on the restores of a volume: each with its fence clear enters COPYING at its first source block
(R109). -/
def State.fencingTest (v : Nat) (s : State) : State :=
  (s.fenceClear v).foldl (fun s r => s.onActive r.id fun r => { r with state := .copying, cursor := some r.first }) s

/-- The fencing test, and the walk of each restore that it puts into COPYING (R109, R110). -/
def takeFencing (v : Nat) (w : Work) : Work :=
  (w.on (State.fencingTest v)).push ((w.st.fenceClear v).map fun r => .walk r.id)

/-! ### Requests (R103, R104, R117, R118) -/

/-- A block range runs past block 4,294,967,295. -/
def pastEnd (first count : Nat) : Bool := Config.maxWord < first + count - 1

/-- The field checks of REQUEST RESTORE (R103, step 1): the mode and urgency when all fields are good. -/
def restoreFields (q : RestoreReq) : Option (RestoreMode × Urgency) :=
  let n := q.count.toNat
  let f := q.first.toNat
  if !volumeNumberOk q.volume || n == 0 || decide (16777216 < n) || pastEnd f n || !ownerNumberOk q.owner then none
  else
    match q.mode, q.urgency with
    | some .inPlace, some u => some (.inPlace, u)
    | some (.side v t), some u =>
      if !volumeNumberOk v || pastEnd t.toNat n || (v == q.volume && overlaps f n t.toNat n) then none
      else some (.side v.toNat t.toNat, u)
    | _, _ => none

/-- The first id from the counter on that no queued or active restore has; the fuel is more than those (R104). -/
def freeId (used : List Nat) : Nat → Nat → Nat
  | 0, n => n
  | k + 1, n => if used.contains n then freeId used k (nextCount 1 65535 n) else n

/-- The id the next accepted restore takes (R104). -/
def State.restoreId (s : State) : Nat :=
  let used := (s.rest.queue ++ s.rest.active).map (·.id)
  freeId used (used.length + 1) s.rest.idCounter

/-- REQUEST RESTORE (R103, R104). -/
def takeRequestRestore (seq : U16) (q : RestoreReq) (w : Work) : Work :=
  let s := w.st
  let refuse (st : Status) : Work := w.on (·.refuse seq 30 st)
  let v := q.volume.toNat
  let e := q.epoch.toNat
  if !operable s.mgmt.service then refuse .wrongState else
  match restoreFields q with
  | none => refuse .badField
  | some (mode, urgency) =>
    let target := match mode with
      | .inPlace => v
      | .side t _ => t
    if (s.volume? v).isNone || (s.volume? target).isNone then refuse .unknownVolume else
    if !(s.snap? v e).any (fun x => x.state == .live || x.state == .retirePending) then refuse .noSnapshot else
    if (s.owner? q.owner.toNat).isNone then refuse .unknownOwner else
    if s.rest.queue.length ≥ 16 then refuse .busy else
    let id := s.restoreId
    let r : Restore :=
      { id := id, volume := v, epoch := e, first := q.first.toNat, count := q.count.toNat, mode := mode,
        owner := q.owner.toNat, tags := q.tags, urgency := urgency, state := .queued, plan := none, ticket := none,
        cursor := none, inProgress := [], written := 0, freed := 0, preserved := 0, skipped := 0, stall := none,
        lastRefusal := none, outcome := none }
    let s := (s.placeHold v e (.restore id)).onRest fun x =>
      { x with queue := x.queue ++ [r], ended := x.ended.filter fun r => r.id != id, idCounter := nextCount 1 65535 id }
    { w with st := s.reply seq 30 .accepted 0 (.number id) }.push [.schedule]

/-- CANCEL RESTORE (R117). -/
def takeCancelRestore (seq : U16) (id : U32) (w : Work) : Work :=
  let s := w.st
  let n := id.toNat
  if !operable s.mgmt.service then w.on (·.refuse seq 33 .wrongState) else
  match s.rest.queue.find? fun r => r.id == n with
  | some r =>
    let s := (s.onRest fun e => { e with queue := e.queue.filter fun q => q.id != n }).releaseHold r.volume r.epoch
      (.restore n)
    w.on fun _ => (s.enterEnded (r.closed .cancelled)).reply seq 33 .cancelled 0 .empty
  | none =>
    match s.active? n with
    | none => w.on (·.refuse seq 33 .noRestore)
    | some r =>
      let accept (flags : Flags) : Work := w.on (·.reply seq 33 .accepted flags .empty)
      match r.state with
      | .planning | .fencing => closeRestore r .cancelled (accept 0)
      | .ending => accept alreadyFlag
      | _ => enterEnding n .cancelled (accept 0)

/-- The place of a restore in the queue, the oldest at 1. -/
def State.queuePosition (s : State) (id : Nat) : Nat := (s.rest.queue.takeWhile fun r => r.id != id).length + 1

/-- READ RESTORE (R118). The rule names no status of a record found: it is OK (DESIGN CHOICE, log entry 40). -/
def takeReadRestore (seq : U16) (id : U32) (s : State) : State :=
  let n := id.toNat
  if s.mgmt.service = .loading then s.refuse seq 34 .wrongState else
  match s.rest.queue.find? fun r => r.id == n with
  | some r => s.reply seq 34 .ok 0 (.restore { record := r, position := some (s.queuePosition n), blocksInProgress := none })
  | none =>
    match s.active? n with
    | some r =>
      s.reply seq 34 .ok 0 (.restore { record := r, position := none, blocksInProgress := some r.inProgress.length })
    | none =>
      match s.rest.ended.find? fun r => r.id == n with
      | some r => s.reply seq 34 .ok 0 (.restore { record := r, position := none, blocksInProgress := none })
      | none => s.refuse seq 34 .noRestore

/-! ### RESTART (R120) -/

/-- RESTART closes an active restore: its blocks in progress are abandoned without counting. -/
def State.restartActive (r : Restore) (s : State) : State := s.closeRestore r .cancelled

/-- RESTART closes a queued restore. -/
def State.restartQueued (r : Restore) (s : State) : State :=
  (((s.onRest fun e => { e with queue := e.queue.filter fun q => q.id != r.id }).releaseHold r.volume r.epoch
    (.restore r.id)).enterEnded (r.closed .cancelled)).raise (.restoreEnded r.id .cancelled r.written r.freed r.preserved)

end Sys2Proof.Machine
end

