-- ==== Sys2Proof/Machine/Duplication.lean ====
section
/-! DEFINITION. The duplication engine: the health of the offsite link, the beginning and end of passes, abandonment, the
reading and sending of consignments, the seal with retention, the schedule with its cycle and roster, and the
requests of both chapters (The Duplication Schedule; Passes, Consignments and the Offsite Link). -/

namespace Sys2Proof.Machine

/-! ### Small changes -/

/-- Change the current pass. -/
def State.onPass (f : Pass → Pass) (s : State) : State := s.onOffsite fun o => { o with pass := o.pass.map f }

/-- The current pass takes a phase, which its roster entry shows (R139). -/
def State.enterPhase (v : Nat) (phase : PassPhase) (shown : PassState) (s : State) : State :=
  (s.onPass fun p => { p with phase := phase }).onRoster v fun e => { e with pass := shown }

/-- The pass of a volume's roster entry is active (R124, R139). -/
def State.passActive (s : State) (v : Nat) : Bool := s.offsite.pass.any fun p => p.volume == v

/-- The offsite link is UP. -/
def State.linkIsUp (s : State) : Bool := s.offsite.link == .up

/-- A consignment is SENT. -/
def Consignment.isSent (c : Consignment) : Bool :=
  match c.state with
  | .sent _ => true
  | _ => false

/-- A consignment is REREADING. -/
def Consignment.isRereading (c : Consignment) : Bool :=
  match c.state with
  | .rereading _ => true
  | _ => false

/-- The duplication engine's reads at the mover, waiting or issued (R87). -/
def State.duplicationReads (s : State) : List ReadId :=
  (s.mover.duplicationQ ++ s.mover.issued.map (·.op)).filterMap fun op => match op.client with
    | .duplication r => some r
    | _ => none

/-! ### Entering STOPPED and the end of a run (R127, R152) -/

/-- RUN_ENDED, once no pass is active and no entry is WAITING while the run-open mark is set (R152). -/
def State.testRunEnd (s : State) : State :=
  if s.sched.runOpen ∧ s.offsite.pass = none ∧ (s.sched.roster.all fun e => e.pass != .waiting) = true then
    (s.onSched fun c => { c with runOpen := false }).raise
      (.runEnded (s.sched.roster.countP fun e => e.pass == .done) (s.sched.roster.countP fun e => e.pass == .abandoned)
        (s.sched.roster.countP fun e => e.pass == .skipped))
  else s

/-- Every WAITING entry becomes SKIPPED without its target, and every deferral is removed with SNAPSHOT_SKIPPED, reason
LATE (R127, R133, R135). -/
def State.skipWaiting (s : State) : State :=
  s.sched.roster.foldl (fun s e =>
    if e.pass = .waiting ∨ e.deferred = true then
      let s := s.onRoster e.volume fun e => { e with pass := .skipped, target := none, deferred := false, freed := false }
      if e.deferred then s.raise (.snapshotSkipped e.volume .late 0) else s
    else s) s

/-- The next settings become the live settings, and a counter beyond the new cycle is set to 0 (R123, R127). -/
def Schedule.applyNext (c : Schedule) : Schedule :=
  { c with live := c.next, nextWritten := false, counter := if c.next.cycle - 1 < c.counter then 0 else c.counter }

/-- The schedule enters STOPPED (R127); the end of the run is tested (R152). -/
def State.enterStopped (s : State) : State :=
  let s := (s.onSched fun c => { c with state := .stopped, windowOpen := false, advancesDue := 0 }).skipWaiting
  (s.onSched fun c => if c.nextWritten then c.applyNext else c).testRunEnd

/-! ### Beginning a pass (R140, R141) -/

/-- A pass begins on a roster entry (R141). -/
def State.beginPass (e : RosterEntry) (target : Nat) (s : State) : State :=
  let n := s.offsite.passCounter
  let s := s.placeHold e.volume target .duplication
  let s := s.onOffsite fun o =>
    { o with
      pass := some
        { number := n, volume := e.volume, base := e.base, target := target, phase := .opening, cursor := some 0,
          nextConsignment := 1, inHand := none, recordsSent := 0, recordsCommitted := 0, answerAttempt := 1,
          answerDeadline := some s.timers.commitTimeout, reason := none }
      passCounter := nextCount 1 4294967295 n
      credits := 0 }
  (s.onRoster e.volume fun e => { e with pass := .opening }).sendOffsite (.passOpen n e.volume e.base target)

/-- The look at the roster entries in order: entries without a usable base are SKIPPED, the first other one begins its
pass (R140). -/
def State.takeEntry (s : State) (e : RosterEntry) : State :=
  match s.offsite.pass, e.target with
  | none, some target =>
    if e.pass = .waiting ∧ (s.snap? e.volume target).any (fun x => x.state == .live) = true then
      let skip (s : State) : State := s.onRoster e.volume fun e => { e with pass := .skipped, target := none }
      if e.base = 0 then (skip s).raise (.noBase e.volume target)
      else if target ≤ e.base then skip s
      else s.beginPass e target
    else s
  | _, _ => s

/-- The test for a new pass (R140). -/
def State.passTest (s : State) : State :=
  if s.sched.windowOpen ∧ s.sched.state = .running ∧ s.mgmt.service = .serving ∧ s.linkIsUp = true
      ∧ s.offsite.pass = none then
    s.sched.roster.foldl State.takeEntry s
  else s

/-- What follows the end of a pass: a STOPPING schedule enters STOPPED, then the tests for a new pass and for the end of
the run (R151, R153). -/
def State.afterPass (s : State) : State :=
  let s := if s.sched.state = .stopping then s.enterStopped else s
  s.passTest.testRunEnd

/-! ### Abandonment (R153) -/

/-- The hold of a pass on its target is released, unless the target is the entry's base, whose hold stays (R62, R153). -/
def State.releaseTarget (p : Pass) (s : State) : State :=
  if (s.roster? p.volume).any (fun e => e.base == p.target) then s else s.releaseHold p.volume p.target .duplication

/-- The end of an abandonment, once the window is empty and no read of the pass is at the mover (R153). -/
def State.testAbandonEnd (s : State) : State :=
  match s.offsite.pass with
  | none => s
  | some p =>
    if p.phase = .abandoning ∧ s.offsite.window = [] ∧ (s.duplicationReads.all fun r => r.pass != p.number) = true then
      let s := if s.linkIsUp then s.sendOffsite (.passAbandon p.number) else s
      let s := (s.releaseTarget p).raise (.passEnded p.volume p.reason p.recordsCommitted)
      (s.onOffsite fun o => { o with pass := none, heldSealed := none }).afterPass
    else s

/-- A pass is abandoned: its entry shows ABANDONED, its in-hand consignment and the DUE and REREADING ones are dropped,
and the SENT ones too when the link is not UP (R153). -/
def State.beginAbandon (reason : Status) (s : State) : State :=
  match s.offsite.pass with
  | none => s
  | some p =>
    if p.phase = .abandoning then s
    else
      let s := s.onRoster p.volume fun e => { e with pass := .abandoned, target := none }
      let s := s.onOffsite fun o =>
        { o with
          pass := some { p with phase := .abandoning, reason := some reason, inHand := none, answerDeadline := none }
          window := if o.link = .up then o.window.filter Consignment.isSent else [] }
      s.testAbandonEnd

/-! ### The health of the link (R155 to R157) -/

/-- Send a PROBE, whose answer is awaited (R157). -/
def State.sendProbe (s : State) : State :=
  let n := s.offsite.sequence
  (s.sendOffsite .probe).onOffsite fun o => { o with awaitedProbe := some n }

/-- The link enters DEGRADED or SILENT (R155, R156). The history is empty afterwards, also where a PROBE sent in DEGRADED is
still unanswered as the link falls to SILENT (DEDUCED, log entry 16). -/
def State.enterLink (entered : LinkState) (s : State) : State :=
  let left := s.offsite.link
  let s := s.onOffsite fun o =>
    { o with link := entered, faultCounter := if entered = .silent then 0 else o.faultCounter, probeHistory := [],
             probeTimer := 30
             window := if o.pass.any (fun p => p.phase == .abandoning) then [] else o.window }
  ((s.raise (.linkChanged left entered s.offsite.faultCounter)).sendProbe).testAbandonEnd

/-- The fault counter rises by one; above the threshold a link that is UP becomes DEGRADED (R155). -/
def State.raiseFault (s : State) : State :=
  let n := min 255 (s.offsite.faultCounter + 1)
  let s := s.onOffsite fun o => { o with faultCounter := n }
  if s.offsite.link = .up ∧ s.timers.faultThreshold < n then s.enterLink .degraded else s

/-- The fault counter falls by one, not below 0 (R155). -/
def State.lowerFault (s : State) : State := s.onOffsite fun o => { o with faultCounter := o.faultCounter - 1 }

/-- A good frame from the partner restarts the silence timer while it runs (R156). -/
def State.goodFrame (s : State) : State :=
  s.onOffsite fun o => { o with silence := if o.link = .silent then o.silence else 0 }

/-- The frame whose answer the current pass awaits: PASS OPEN or PASS CLOSE, unless a SEALED is held (R141, R151, R179). -/
def State.awaited (s : State) : Option OffsiteFrame :=
  match s.offsite.pass with
  | none => none
  | some p =>
    match p.phase with
    | .opening => some (.passOpen p.number p.volume p.base p.target)
    | .closing => if s.offsite.heldSealed.isSome then none else some (.passClose p.number p.recordsSent)
    | _ => none

/-- Send the awaited frame again with a new answer deadline; while the link is not UP nothing is sent, and the deadline
stands (R141, R155). -/
def State.resendAwaited (s : State) : State :=
  match s.awaited with
  | none => s
  | some f =>
    let s := s.onPass fun p => { p with answerDeadline := some s.timers.commitTimeout }
    if s.linkIsUp then s.sendOffsite f else s

/-- The link recovers: SENT consignments become DUE, an awaited frame goes again, and the engine tests for a new pass
(R157). -/
def State.enterUp (s : State) : State :=
  let left := s.offsite.link
  let s := s.onOffsite fun o =>
    { o with link := .up, faultCounter := 0, silence := 0
             window := updateWhere Consignment.isSent (fun c => { c with state := .due }) o.window }
  ((s.raise (.linkChanged left .up 0)).resendAwaited).passTest

/-- A failed answer to PASS OPEN or PASS CLOSE, after its rise of the fault counter: the frame goes again, or the third
failure abandons the pass (R141, R151). -/
def State.failAnswer (s : State) : State :=
  match s.offsite.pass with
  | none => s
  | some p =>
    if p.answerAttempt < 3 then
      (s.onPass fun p => { p with answerAttempt := p.answerAttempt + 1 }).resendAwaited
    else s.beginAbandon .attempts

/-- A failed attempt of a SENT consignment, after its rise of the fault counter (R149, R153). At attempt 3 the pass is abandoned, and
the consignment stays in the window SENT, with its deadline as it is, 0 after an expiry, until its COMMIT or a further REJECT or
expiry while ABANDONING, or until the link is not UP (DESIGN CHOICE, log entry 59). -/
def State.failConsignment (n : Nat) (s : State) : State :=
  match s.offsite.pass, s.offsite.window.find? fun c => c.number == n with
  | some p, some c =>
    if !c.isSent then s
    else if p.phase = .abandoning then
      (s.onOffsite fun o => { o with window := o.window.filter fun c => c.number != n }).testAbandonEnd
    else if c.attempt < 3 then
      s.onOffsite fun o =>
        { o with window := updateWhere (fun c => c.number == n)
                   (fun c => { c with attempt := c.attempt + 1, state := .due }) o.window }
    else s.beginAbandon .attempts
  | _, _ => s

/-! ### Reading consignments (R142 to R144, R150) -/

/-- The delta blocks at or above a block, in ascending order (R142). -/
def State.deltaFrom (s : State) (p : Pass) (c : Nat) : List Nat :=
  withoutRepeats (((s.entriesIn p.volume p.base (some p.target)).filter fun e => c ≤ e.block).map (·.block))

/-- Look up and hand over the blocks of a consignment in order, stopping at a COPYING entry and at the bound of 64
operations (R143, R144). -/
def State.feedBlocks (p : Pass) (n : Nat) : Reading → State → Reading × State
  | [], s => ([], s)
  | (b, .todo) :: rest, s =>
    let read (area : Area) (address : Nat) : Reading × State :=
      if s.duplicationReads.length < 64 then
        let (l, s) := State.feedBlocks p n rest
          (s.handDuplication { pass := p.number, consignment := n, block := b } area address)
        ((b, .reading) :: l, s)
      else ((b, .todo) :: rest, s)
    match s.lookup p.volume b p.target with
    | .fresh _ =>
      let (l, s) := State.feedBlocks p n rest s
      ((b, .void) :: l, s)
    | .live => read (.volume p.volume) b
    | .slot k _ _ .settled => read .pool k
    | .slot _ _ _ .copying => ((b, .todo) :: rest, s)
  | r :: rest, s =>
    let (l, s) := State.feedBlocks p n rest s
    (r :: l, s)

/-- Every block of a consignment has its record: DATA or VOID (R144). -/
def assembled (l : Reading) : Bool :=
  l.all fun r => match r.2 with
    | .data _ | .void => true
    | _ => false

/-- The records of an assembled consignment, as they are sent (R145). -/
def sentRecords (l : Reading) : List (Nat × Option (List Byte)) :=
  l.map fun r => match r.2 with
    | .data c => (r.1, some c)
    | _ => (r.1, none)

/-- A block of a consignment being read receives its content. -/
def received (b : Nat) (content : List Byte) (l : Reading) : Reading :=
  updateWhere (fun r => r.1 == b && r.2 == .reading) (fun r => (r.1, .data content)) l

/-- A read of the engine has completed: its content joins the consignment it belongs to, and is discarded when that has
been dropped (R144, R148). -/
def State.readDone (r : ReadId) (content : List Byte) (s : State) : State :=
  s.onOffsite fun o =>
    { o with
      pass := o.pass.map fun p =>
        if p.number = r.pass then
          { p with inHand := p.inHand.map fun h =>
              if h.number = r.consignment then { h with records := received r.block content h.records } else h }
        else p
      window := if o.pass.any (fun p => p.number == r.pass) then
          updateWhere (fun c => c.number == r.consignment)
            (fun c => match c.state with
              | .rereading l => { c with state := .rereading (received r.block content l) }
              | _ => c) o.window
        else o.window }

/-- A read of the engine has faulted: its pass is abandoned with STORE_FAULT, in every phase and also where the read's
consignment has been committed (R144, R150, R153). A read of a pass that has ended abandons none (DEDUCED, log entry 50). -/
def State.readFaulted (r : ReadId) (s : State) : State :=
  if s.offsite.pass.any (fun p => p.number == r.pass) then s.beginAbandon .storeFault else s

/-! ### What the engine does next (R142 to R151, R154) -/

/-- The reads of the in-hand consignment, or of the one being re-read, go on (R143, R144, R150), in every service state: a
consignment already begun is looked up to its end (DEDUCED beside R154, log entry 43). -/
def State.feedAct (p : Pass) (s : State) : Option State :=
  match p.inHand with
  | some h =>
    let (l, t) := s.feedBlocks p h.number h.records
    if l = h.records then none
    else some (t.onPass fun p => { p with inHand := some { h with records := l } })
  | none =>
    match s.offsite.window.find? Consignment.isRereading with
    | some c =>
      match c.state with
      | .rereading records =>
        let (l, t) := s.feedBlocks p c.number records
        if l = records then none
        else some (t.onOffsite fun o =>
          { o with window := updateWhere (fun d => d.number == c.number) (fun d => { d with state := .rereading l })
                     o.window })
      | _ => none
    | none => none

/-- An assembled in-hand consignment is sent for its credits (R145). -/
def State.sendAct (p : Pass) (s : State) : Option State :=
  match p.inHand with
  | some h =>
    if s.mgmt.service = .serving ∧ s.linkIsUp = true ∧ assembled h.records = true
        ∧ h.records.length ≤ s.offsite.credits then
      let n := h.records.length
      let s := s.onOffsite fun o =>
        { o with
          pass := some { p with inHand := none, recordsSent := p.recordsSent + n }
          window := o.window ++
            [{ number := h.number, attempt := 1, blocks := h.records.map (·.1), state := .sent s.timers.commitTimeout }]
          credits := o.credits - n }
      some (s.sendOffsite (.consignment p.number h.number 1 (sentRecords h.records)))
    else none
  | none => none

/-- A re-read consignment with every record in is sent again (R150). -/
def State.resendAct (p : Pass) (s : State) : Option State :=
  match s.offsite.window.find? Consignment.isRereading with
  | some c =>
    match c.state with
    | .rereading l =>
      if s.mgmt.service = .serving ∧ s.linkIsUp = true ∧ assembled l = true then
        let s := s.onOffsite fun o =>
          { o with window := updateWhere (fun d => d.number == c.number)
                     (fun d => { d with state := .sent s.timers.commitTimeout }) o.window }
        some (s.sendOffsite (.consignment p.number c.number c.attempt (sentRecords l)))
      else none
    | _ => none
  | none => none

/-- With no delta block at or above the cursor, the cursor becomes END (R142). -/
def State.endAct (p : Pass) (s : State) : Option State :=
  match p.phase, p.cursor with
  | .sending, some c => if s.deltaFrom p c = [] then some (s.onPass fun p => { p with cursor := none }) else none
  | _, _ => none

/-- A SENDING pass with its cursor at END and no consignment in hand becomes DRAINING (R145). -/
def State.drainAct (p : Pass) (s : State) : Option State :=
  if p.phase = .sending ∧ p.cursor = none ∧ p.inHand = none then some (s.enterPhase p.volume .draining .draining) else none

/-- A DRAINING pass whose window is empty closes: PASS CLOSE awaits its answer (R151). -/
def State.closeAct (p : Pass) (s : State) : Option State :=
  if p.phase = .draining ∧ s.offsite.window = [] then
    some (((s.enterPhase p.volume .closing .closing).onPass fun p => { p with answerAttempt := 1 }).resendAwaited)
  else none

/-- Under STOPPING a SENDING pass with delta left and nothing in hand is abandoned with STOPPED (R154). -/
def State.stopAct (p : Pass) (s : State) : Option State :=
  if s.sched.state = .stopping ∧ p.phase = .sending ∧ p.cursor ≠ none ∧ p.inHand = none then
    some (s.beginAbandon .stopped)
  else none

/-- The service state, the link and the hand let a consignment be read. -/
def State.mayRead (p : Pass) (s : State) : Bool :=
  s.mgmt.service == .serving && s.linkIsUp && p.inHand.isNone && !s.offsite.window.any Consignment.isRereading

/-- The DUE consignment with the lowest number is begun to be re-read (R150). -/
def State.rereadAct (p : Pass) (s : State) : Option State :=
  if s.mayRead p = true ∧ (p.phase = .sending ∨ p.phase = .draining) then
    match s.offsite.window.find? fun c => c.state == .due with
    | some c =>
      some (s.onOffsite fun o =>
        { o with window := updateWhere (fun d => d.number == c.number)
                   (fun d => { d with state := .rereading (d.blocks.map fun b => (b, .todo)) }) o.window })
    | none => none
  else none

/-- A new consignment is begun with the next delta blocks, up to 64 (R144). -/
def State.beginAct (p : Pass) (s : State) : Option State :=
  match p.cursor with
  | some c =>
    if s.mayRead p = true ∧ p.phase = .sending ∧ (s.offsite.window.all fun c => c.state != .due) = true
        ∧ s.offsite.window.length < 16 ∧ s.sched.state ≠ .stopping then
      let delta := s.deltaFrom p c
      some (s.onPass fun p =>
        { p with nextConsignment := p.nextConsignment + 1
                 inHand := some { number := p.nextConsignment, records := (delta.take 64).map fun b => (b, .todo) }
                 cursor := (delta.drop 64).head? })
    else none
  | none => none

/-- The engine's next act on the current pass: the first that its conditions let happen. -/
def State.dupAct (s : State) : Option State :=
  match s.offsite.pass with
  | none => none
  | some p =>
    if p.phase = .abandoning then none
    else
      (s.feedAct p).or <| (s.sendAct p).or <| (s.resendAct p).or <| (s.endAct p).or <| (s.drainAct p).or <|
        (s.closeAct p).or <| (s.stopAct p).or <| (s.rereadAct p).or <| s.beginAct p

/-- Acts until none is left to do; the fuel is more than one event can need. -/
def State.dupActs : Nat → State → State
  | 0, s => s
  | n + 1, s =>
    match s.dupAct with
    | some s => State.dupActs n s
    | none => s

/-- The engine tests what it may do next, after each event that can let it (R144, R145, R150, R151). -/
def takeDup (w : Work) : Work := (w.on fun s => State.dupActs 1024 s.testAbandonEnd).touch

/-! ### The seal and retention (R136, R151) -/

/-- Retention: while the count is above `keep`, the oldest unheld LIVE NIGHTLY snapshot is retired (R136). -/
def State.retain (v keep : Nat) : Nat → State → State
  | 0, s => s
  | count + 1, s =>
    if count + 1 ≤ keep then s
    else
      match leastBy (·.epoch) ((s.snapsOf v).filter fun x => x.kind == .nightly && x.state == .live && x.holds.isEmpty) with
      | none => s
      | some x => State.retain v keep count (s.retire v x.epoch)

/-- The NIGHTLY snapshots of a volume in LIVE or OPENING (R136). -/
def State.nightlies (s : State) (v : Nat) : Nat :=
  (s.snapsOf v).countP fun x => x.kind == .nightly && (x.state == .live || x.state == .opening)

/-- A SEALED ends a CLOSING pass DONE: the base moves forward to the target (R151). -/
def State.takeSealed (s : State) : State :=
  match s.offsite.pass with
  | none => s
  | some p =>
    let s := (s.lowerFault).releaseHold p.volume p.base .duplication
    let s := s.onRoster p.volume fun e => { e with base := p.target, target := none, pass := .done }
    let s := s.raise (.passEnded p.volume none p.recordsCommitted)
    let s := s.retain p.volume (((s.roster? p.volume).map (·.keep)).getD 14) (s.nightlies p.volume)
    (s.onOffsite fun o => { o with pass := none, heldSealed := none }).afterPass

/-- A SEALED held during a save is taken (R179, R182). -/
def State.takeHeldSealed (s : State) : State := if s.offsite.heldSealed.isSome then s.takeSealed else s

/-! ### The window (R135) -/

/-- The window closes (R135, R154). -/
def State.closeWindow (s : State) : State :=
  let s := (s.onSched fun c => { c with windowOpen := false }).skipWaiting
  let s := match s.offsite.pass with
    | some p => if p.phase = PassPhase.closing then s else s.beginAbandon .windowClosed
    | none => s
  s.testRunEnd

/-- The window opens (R135, R152). -/
def State.openWindow (s : State) : State :=
  ((s.onSched fun c => { c with windowOpen := true, runOpen := true }).passTest).testRunEnd

/-! ### The snapshot point (R132, R133) -/

/-- The snapshot point visits an entry (R132, R133). Where the volume's epochs are used up and it holds 24 snapshots too, the
row FULL of R132 is taken before the row that defers (DESIGN CHOICE, log entry 48). SNAPSHOT_SKIPPED with PASS_ACTIVE carries the
epoch 0, and not the target of the active pass; with NOT_SERVING it carries 0 too, also where a target is removed (DESIGN CHOICE, log
entry 63). -/
def takeSnapVisit (v : Nat) (w : Work) : Work :=
  let s := w.st
  if s.passActive v then w.on (·.raise (.snapshotSkipped v .passActive 0))
  else if s.mgmt.service ≠ .serving then w.on (·.skipEntry v .notServing)
  else
    let s := s.onRoster v fun e => { e with target := none, deferred := false, freed := false }
    let defer (s : State) : State := s.onRoster v fun e => { e with pass := .waiting, deferred := true, freed := false }
    match s.takeSnap v .nightly none with
    | .ok (s, e) =>
      { w with st := s.onRoster v fun r => { r with pass := .waiting, target := some e } }.push [.quiet v]
    | .error .busy => { w with st := s.skipEntry v .opening }
    | .error _ =>
      if s.nextEpoch v = 0 ∨ s.cat.snaps.length ≥ Config.maxSnapshots then { w with st := s.skipEntry v .full }
      else if (s.snapsOf v).any (fun x => x.state == .merging || (x.state == .retirePending && x.holds.isEmpty)) then
        { w with st := defer s }
      else
        match leastBy (·.epoch) ((s.snapsOf v).filter fun x => x.kind == .nightly && x.state == .live && x.holds.isEmpty)
        with
        | some x => { w with st := defer (s.retire v x.epoch) }
        | none => { w with st := s.skipEntry v .full }

/-- A snapshot of the volume has become GONE: a deferred take is made in the same event (R133). Only where a manual TAKE SNAPSHOT
of the volume is at hand, taken as the next command comes, may that be taken first, the deferred take being left due for it: R133
gives both orders their outcome and leaves the order open, and the choice is a free value (log entry 11). -/
def takeDeferred (v : Nat) (w : Work) : Work :=
  if (w.st.roster? v).any (·.deferred) then
    if w.st.takeAtHand v then
      let first := Config.pick w.st.choices 2 % 2 = 0
      let w := w.on fun s => { s with choices := s.choices + 1 }
      if first then makeDeferred v w else w.on (·.onRoster v fun e => { e with freed := true })
    else makeDeferred v w
  else w

/-! ### The cycle (R125) -/

/-- Step 1 of an advance: the boundary, or a rise by one (R125). -/
def State.advanceCycle (s : State) : State :=
  let c := s.sched
  if c.live.cycle ≤ c.counter + 1 then
    let s := if c.live.window + c.live.length = c.live.cycle then s.closeWindow else s
    let s := s.onSched fun c => { c with counter := 0 }
    let s := s.onSched fun c => if c.nextWritten then { c with live := c.next, nextWritten := false } else c
    match s.sched.mode, s.sched.state, s.offsite.pass with
    | .single, .running, none => s.enterStopped
    | .single, .running, some _ => s.onSched fun c => { c with state := .stopping }
    | _, _, _ => s
  else s.onSched fun c => { c with counter := c.counter + 1 }

/-- Step 2, 3 or 4 of an advance, each leaving the next one to be done (R125). -/
def takeCycleStep (n : Nat) (w : Work) : Work :=
  let c := w.st.sched
  if n = 2 then
    (if c.state ≠ .stopped ∧ c.counter = c.live.window + c.live.length then w.on State.closeWindow else w).push
      [.cycleStep 3, .dup]
  else if n = 3 then
    if c.state = .running ∧ c.counter = c.live.point then
      w.push ((c.roster.map fun e => .snapVisit e.volume) ++ [.cycleStep 4])
    else w.push [.cycleStep 4]
  else if c.state = .running ∧ c.counter = c.live.window then w.on State.openWindow
  else w

/-- CYCLE_ADVANCE, when a minute advance is due to the counter. -/
def takeCycleAdvance (w : Work) : Work :=
  let s := w.st
  if 0 < s.sched.advancesDue ∧ s.sched.state ≠ .stopped ∧ s.mgmt.service ≠ .loading then
    (w.on fun s => (s.onSched fun c => { c with advancesDue := c.advancesDue - 1 }).advanceCycle).push [.cycleStep 2]
  else w

/-! ### Schedule and roster requests (R123, R126 to R131, R137, R158) -/

/-- WRITE SCHEDULE (R123). -/
def takeWriteSchedule (seq : U16) (q : ScheduleReq) (s : State) : State :=
  if !configurable s.mgmt.service then s.refuse seq 35 .wrongState else
  let x := (settingsOf q).clamp
  let clamped := flagIf (decide (x ≠ settingsOf q)) clampedFlag
  let s := s.onSched fun c => { c with next := x }
  if s.sched.state = .stopped then (s.onSched Schedule.applyNext).reply seq 35 .ok (clamped ||| appliedFlag) (.settings x)
  else (s.onSched fun c => { c with nextWritten := true }).reply seq 35 .ok clamped (.settings x)

/-- START SCHEDULE (R126). A bad mode is refused before a schedule that is not STOPPED (DEDUCED, log entry 25). -/
def takeStartSchedule (seq : U16) (mode : Option RunMode) (s : State) : State :=
  if !operable s.mgmt.service then s.refuse seq 36 .wrongState else
  match mode with
  | none => s.refuse seq 36 .badField
  | some m =>
    if s.sched.state ≠ .stopped then s.refuse seq 36 .wrongState
    else (s.onSched fun c => { c with mode := m, state := .running }).reply seq 36 .ok 0 (.number s.sched.counter)

/-- STOP SCHEDULE (R127). -/
def takeStopSchedule (seq : U16) (w : Work) : Work :=
  let s := w.st
  if !operable s.mgmt.service then w.on (·.refuse seq 37 .wrongState) else
  match s.sched.state with
  | .stopped => w.on (·.refuse seq 37 .wrongState)
  | .stopping => w.on (·.reply seq 37 .ok alreadyFlag (.scheduleState .stopping))
  | .running =>
    if s.offsite.pass = none then w.on fun s => s.enterStopped.reply seq 37 .ok 0 (.scheduleState .stopped)
    else
      (w.on fun s => (s.onSched fun c => { c with state := .stopping }).reply seq 37 .ok 0 (.scheduleState .stopping)).push
        [.dup]

/-- CLEAR CYCLE (R128). -/
def takeClearCycle (seq : U16) (s : State) : State :=
  if !configurable s.mgmt.service || s.sched.state != .stopped then s.refuse seq 38 .wrongState
  else (s.onSched fun c => { c with counter := 0 }).reply seq 38 .ok 0 (.number s.sched.counter)

/-- WRITE ROSTER (R130); the engine tests for a new pass (R140). -/
def takeWriteRoster (seq : U16) (volume keep : U32) (w : Work) : Work :=
  let s := w.st
  let v := volume.toNat
  if !configurable s.mgmt.service then w.on (·.refuse seq 39 .wrongState) else
  if !volumeNumberOk volume then w.on (·.refuse seq 39 .badField) else
  if (s.volume? v).isNone then w.on (·.refuse seq 39 .unknownVolume) else
  let k := clampTo 1 14 keep.toNat
  let clamped := flagIf (decide (k ≠ keep.toNat)) clampedFlag
  let s := match s.roster? v with
    | some _ => (s.onRoster v fun e => { e with keep := k }).reply seq 39 .ok clamped .empty
    | none =>
      (s.onSched fun c =>
        { c with roster := c.roster ++
            [{ volume := v, base := 0, keep := k, target := none, deferred := false, pass := .skipped }] }
        ).reply seq 39 .ok (clamped ||| createdFlag) .empty
  { w with st := s }.push [.passTest]

/-- ERASE ROSTER (R130). -/
def takeEraseRoster (seq : U16) (volume : U32) (s : State) : State :=
  let v := volume.toNat
  if !configurable s.mgmt.service then s.refuse seq 40 .wrongState else
  if !volumeNumberOk volume then s.refuse seq 40 .badField else
  match s.roster? v with
  | none => s.refuse seq 40 .noEntry
  | some e =>
    if s.passActive v then s.refuse seq 40 .wrongState
    else
      let s := if e.base = 0 then s else s.releaseHold v e.base .duplication
      (s.onSched fun c => { c with roster := c.roster.filter fun e => e.volume != v }).reply seq 40 .ok 0 (.number e.base)

/-- SET BASE (R131); the engine tests for a new pass (R140). -/
def takeSetBase (seq : U16) (volume epoch : U32) (w : Work) : Work :=
  let s := w.st
  let v := volume.toNat
  let n := epoch.toNat
  if !operable s.mgmt.service then w.on (·.refuse seq 41 .wrongState) else
  if !volumeNumberOk volume then w.on (·.refuse seq 41 .badField) else
  match s.roster? v with
  | none => w.on (·.refuse seq 41 .noEntry)
  | some e =>
    if s.passActive v then w.on (·.refuse seq 41 .wrongState) else
    if n ≠ 0 ∧ (s.snap? v n).any (fun x => x.state == .live) = false then w.on (·.refuse seq 41 .noSnapshot) else
    let s :=
      if n = e.base then s
      else
        let s := if n = 0 then s else s.placeHold v n .duplication
        let s := s.onRoster v fun e => { e with base := n }
        if e.base = 0 then s else s.releaseHold v e.base .duplication
    { w with st := s.reply seq 41 .ok 0 (.number e.base) }.push [.passTest]

/-- READ SCHEDULE (R137). The rule names no status of what it returns: it is OK (DESIGN CHOICE, log entry 40). -/
def takeReadSchedule (seq : U16) (s : State) : State :=
  if s.mgmt.service = .loading then s.refuse seq 42 .wrongState
  else
    let c := s.sched
    s.reply seq 42 .ok 0 (.schedule
      { live := c.live, next := c.next, nextWritten := c.nextWritten, state := c.state, mode := c.mode,
        counter := c.counter, windowOpen := c.windowOpen, roster := c.roster })

/-- The records of the in-hand consignment that are in: DATA or VOID. -/
def Pass.recordsInHand (p : Pass) : Nat :=
  match p.inHand with
  | some h => h.records.countP fun r => match r.2 with
    | .data _ | .void => true
    | _ => false
  | none => 0

/-- READ DUPLICATION (R158). The rule names no status of what it returns: it is OK (DESIGN CHOICE, log entry 40). With no current
pass the records in hand and the reads at the mover are returned as 0, not as absent fields (DESIGN CHOICE, log entry 58). -/
def takeReadDuplication (seq : U16) (s : State) : State :=
  if s.mgmt.service = .loading then s.refuse seq 43 .wrongState
  else
    let o := s.offsite
    s.reply seq 43 .ok 0 (.duplication
      { pass := o.pass
        recordsInHand := (o.pass.map Pass.recordsInHand).getD 0
        readsAtMover := (o.pass.map fun p => s.duplicationReads.countP fun r => r.pass == p.number).getD 0
        window := o.window, credits := o.credits, reload := s.sched.live.reload, link := o.link,
        faultCounter := o.faultCounter, faultThreshold := s.timers.faultThreshold, silence := o.silence,
        probeHistory := o.probeHistory, lastReject := o.lastReject, passCounter := o.passCounter,
        runOpen := s.sched.runOpen })

/-! ### Frames of the partner and timer events (R141, R146, R148 to R151, R156, R157) -/

/-- The current pass has a number and a phase. -/
def State.passIs (s : State) (n : Nat) (phase : PassPhase) : Bool :=
  s.offsite.pass.any fun p => p.number == n && p.phase == phase

/-- ACCEPT: the pass it names goes from OPENING to SENDING (R141). -/
def takeAccept (n : Nat) (w : Work) : Work :=
  let w := w.on State.goodFrame
  if w.st.passIs n .opening then
    (w.on fun s =>
      match s.offsite.pass with
      | some p => (s.lowerFault.enterPhase p.volume .sending .sending).onPass fun p => { p with answerDeadline := none }
      | none => s).push [.dup]
  else w

/-- COMMIT: the consignment leaves the window, in any state (R148, R153). -/
def takeCommit (n k : Nat) (w : Work) : Work :=
  let w := w.on State.goodFrame
  match w.st.offsite.pass, w.st.offsite.window.find? fun c => c.number == k with
  | some p, some c =>
    if p.number = n then
      (w.on fun s =>
        ((s.onPass fun p => { p with recordsCommitted := p.recordsCommitted + c.blocks.length }).onOffsite fun o =>
          { o with window := o.window.filter fun c => c.number != k }).lowerFault.testAbandonEnd).push [.dup]
    else w
  | _, _ => w

/-- REJECT: every one raises the fault counter; a failed answer or a failed attempt follows (R141, R149, R151). -/
def takeReject (n k : Nat) (reason : Byte) (w : Work) : Work :=
  let before := w.st
  (w.on fun s =>
    let s := ((s.goodFrame).onOffsite fun o => { o with lastReject := some reason }).raiseFault
    if (before.offsite.pass.any fun p => p.number == n) = false then s
    else if k = 0 then (if before.awaited.isSome then s.failAnswer else s)
    else s.failConsignment k).push [.dup]

/-- SEALED: a CLOSING pass ends DONE; in SAVING the SEALED is held (R151, R179). -/
def takeSealedFrame (n : Nat) (w : Work) : Work :=
  let w := w.on State.goodFrame
  if w.st.passIs n .closing then
    if w.st.mgmt.service = .saving then w.on (·.onOffsite fun o => { o with heldSealed := some n })
    else (w.on State.takeSealed).push [.dup]
  else w

/-- PROBE ANSWER: an awaited one joins the probe history in DEGRADED and SILENT, and two answered of three bring the link
UP (R157). -/
def takeProbeAnswer (seq : U16) (w : Work) : Work :=
  let w := w.on State.goodFrame
  if w.st.offsite.awaitedProbe = some seq then
    let s := w.st.onOffsite fun o =>
      { o with awaitedProbe := none
               probeHistory := if o.link = .up then o.probeHistory else (true :: o.probeHistory).take 3 }
    if s.offsite.link ≠ .up ∧ 2 ≤ s.offsite.probeHistory.countP id then { w with st := s.enterUp }.push [.dup]
    else { w with st := s }
  else w

/-- The deadline of a SENT consignment expires (R149, R153). -/
def takeConsignmentExpiry (k : Nat) (w : Work) : Work :=
  match w.st.offsite.window.find? fun c => c.number == k with
  | some c =>
    if c.state = .sent 0 ∧ w.st.linkIsUp = true then (w.on fun s => s.raiseFault.failConsignment k).push [.dup] else w
  | none => w

/-- The answer deadline of PASS OPEN or PASS CLOSE expires (R141, R151). -/
def takeAnswerExpiry (w : Work) : Work :=
  if w.st.offsite.pass.any (fun p => p.answerDeadline == some 0) ∧ w.st.awaited.isSome ∧ w.st.linkIsUp = true then
    (w.on fun s => s.raiseFault.failAnswer).push [.dup]
  else w

/-- The silence time runs out: the link becomes SILENT (R156). -/
def takeSilence (w : Work) : Work :=
  if w.st.offsite.link ≠ .silent ∧ w.st.timers.silenceTime ≤ w.st.offsite.silence then
    (w.on (·.enterLink .silent)).push [.dup]
  else w

/-- The probe timer runs out: it starts again, and a PROBE goes in DEGRADED and SILENT, and in UP while no answer is
awaited (R157). -/
def State.takeProbeTimer (s : State) : State :=
  if s.offsite.probeTimer = 0 then
    let s := s.onOffsite fun o => { o with probeTimer := 30 }
    if s.linkIsUp then
      if s.awaited.isSome || s.offsite.window.any Consignment.isSent then s else s.sendProbe
    else
      (s.onOffsite fun o =>
        { o with probeHistory := if o.awaitedProbe.isSome then (false :: o.probeHistory).take 3 else o.probeHistory }
        ).sendProbe
  else s

/-- The pacer overflows: the divider is loaded again, and a SENDING pass earns a credit (R146). -/
def takePacer (w : Work) : Work :=
  (w.on fun s =>
    let sending := s.offsite.pass.any fun p => p.phase == .sending
    s.onOffsite fun o =>
      { o with divider := s.sched.live.reload
               credits := if sending then min 64 (o.credits + 1) else o.credits }).push [.dup]

/-! ### RESTART (R138, R159) -/

/-- RESTART abandons a pass at once, clears the credits and the fault counter, and the schedule enters STOPPED with the effects
of R127, also when it is STOPPED already: a pending copy is made (R138, R152, R159). -/
def State.restartDuplication (s : State) : State :=
  let s := s.onSched fun c => { c with runOpen := false }
  let s := match s.offsite.pass with
    | none => s
    | some p =>
      let s := if s.linkIsUp then s.sendOffsite (.passAbandon p.number) else s
      let s := (s.releaseTarget p).onRoster p.volume fun e => { e with pass := .abandoned, target := none }
      s.raise (.passEnded p.volume (some .restart) p.recordsCommitted)
  (s.onOffsite fun o => { o with pass := none, window := [], credits := 0, faultCounter := 0, heldSealed := none }
    ).enterStopped

end Sys2Proof.Machine
end

