-- ==== Sys2Proof/Machine/Live.lean ====
section
/-! DEFINITION. What moves snapshots and requests on: the intakes of the server links, the waiting lists and their
hand-back, the test for quiet with a snapshot's going LIVE, the merge walk, and pool rescue (R53, R54, R57, R58, R70,
R78, R160 to R169). -/

namespace Sys2Proof.Machine

/-! ### Intakes (R161 to R163) -/

/-- BUSY or NOT_SERVING in the reply kind of the request: only the status, but a PRESERVE keeps its volume and first block
(R188). -/
def bareReply (r : ServerRequest) (st : Status) : ServerReply :=
  match r with
  | .claim _ => claimRefusal st
  | .settle _ => .settle st 0 0 0 0
  | .release _ => .release st 0 0
  | .preserve q => preserveReply q st 0 0

/-- The service-state test of an intake: the request reaches its unit (R162). -/
def reachesUnit (r : ServerRequest) (st : ServiceState) : Bool :=
  match r, st with
  | .claim _, .serving | .preserve _, .serving => true
  | .settle _, .serving | .settle _, .pausing | .settle _, .paused | .settle _, .saving => true
  | .release _, .serving | .release _, .pausing | .release _, .paused | .release _, .saving => true
  | _, _ => false

/-- The unit that owns a request takes it (R30, R33, R35, R73). The grace evaluations left are made before the quota unit
takes anything further, as `takePreserve` makes them before a PRESERVE (R23). -/
def takeRequest (l : Link) (seq : U16) (r : ServerRequest) (w : Work) : Work :=
  match r with
  | .claim q => w.evalOwners.on (takeClaim l seq q)
  | .settle q => w.evalOwners.on (takeSettle l seq q)
  | .release q => w.evalOwners.on (takeRelease l seq q)
  | .preserve q => takePreserve false l seq q w

/-- A request is a PRESERVE. -/
def isPreserve : ServerRequest → Bool
  | .preserve _ => true
  | _ => false

/-- The intake takes the request at its head, unless it must hold it, and then tests the next (R162, R163). -/
def takeIntake (l : Link) (w : Work) : Work :=
  let s := w.st
  match (s.intake l).queue with
  | [] => w
  | (seq, r) :: rest =>
    if isPreserve r = true ∧ s.mgmt.service = .serving ∧ 4 ≤ s.copyingPreserves l then
      w.on (·.onLink l fun i => { i with held := true })
    else
      let w := w.on (·.onLink l fun i => { i with queue := rest, held := false })
      (if reachesUnit r s.mgmt.service then takeRequest l seq r w else w.on (·.answer l seq (bareReply r .notServing))).push
        [.intake l]

/-- A good frame arrives on a server link: it clears the mark, and is answered BUSY or joins the queue, where it is taken
at once if the queue was empty (R161, R162). -/
def arriveServer (l : Link) (seq : U16) (r : ServerRequest) (w : Work) : Work :=
  let w := w.on (·.onLink l fun i => { i with mark := .none })
  let queue := (w.st.intake l).queue
  if 16 ≤ queue.length then w.on (·.answer l seq (bareReply r .busy))
  else
    let w := w.on (·.onLink l fun i => { i with queue := i.queue ++ [(seq, r)] })
    if queue.isEmpty then w.push [.intake l] else w

/-- The mark that a discarded frame sets (R161, R172). -/
def markLink (l : Link) (m : FrameMark) (w : Work) : Work := w.on (·.onLink l fun i => { i with mark := m })

/-- What a receiver makes of a frame on a server link (R161, R186). -/
def receiveServer (l : Link) (r : Received) (w : Work) : Work :=
  match r with
  | .lengthFault => markLink l .length w
  | .checkFault => markLink l .check w
  | .frame kind seq body =>
    match serverUnits kind with
    | none => markLink l .kind w
    | some units =>
      if body.length ≠ 8 * units then markLink l .length w
      else
        match serverRequestOf kind body with
        | some q => arriveServer l seq q w
        | none => markLink l .kind w

/-! ### Waiting lists (R54, R78) -/

/-- The waiting list of a volume may be handed back: the part is SERVING, the newest snapshot is not OPENING, and the head
request's link has fewer than 4 copying preserves. -/
def State.handable (s : State) (v : Nat) : Option Waiting :=
  match s.volume? v with
  | none => none
  | some e =>
    match e.waiting with
    | [] => none
    | x :: _ =>
      if s.mgmt.service = .serving ∧ s.hasSnap v .opening = false ∧ s.copyingPreserves x.link < 4 then some x else none

/-- The head of a waiting list is taken again as a fresh arrival (R54). -/
def handOne (v : Nat) (w : Work) : Work :=
  match w.st.handable v with
  | none => w
  | some x =>
    takePreserve true x.link x.seq x.req (w.on (·.onVolume v fun e => { e with waiting := e.waiting.tail }))

/-- A waiting list is handed back in arrival order, as far as it may be (R54). -/
def takeHandBack (v : Nat) (w : Work) : Work :=
  if (w.st.handable v).isSome then (handOne v w).push [.handBack v] else w

/-- A link's copying count has fallen: its held head and the heads of waiting lists from it are ready, and either may be
taken first; the choice is a free value (R78, R163). -/
def takeLinkFall (l : Link) (w : Work) : Work :=
  let s := w.st
  if s.mgmt.service = .serving ∧ s.copyingPreserves l < 4 then
    let lists := (s.cat.volumes.map (·.volume)).filter fun v => (s.handable v).any fun x => x.link == l
    let ready : List (Option Nat) := (if (s.intake l).held then [none] else []) ++ lists.map some
    let chosen := if ready.length < 2 then ready.head? else
      ready[Config.pick s.choices ready.length % ready.length]?
    let w := if ready.length < 2 then w else w.on fun s => { s with choices := s.choices + 1 }
    match chosen with
    | none => w
    | some none => w.push [.intake l, .linkFall l]
    | some (some v) => (handOne v w).push [.linkFall l, .handBack v]
  else w

/-! ### Going LIVE (R53) -/

/-- The OPENING snapshot of a volume, if the volume is quiet. -/
def State.mayGoLive (s : State) (v : Nat) : Option Snapshot :=
  if s.isQuiet v then (s.snapsOf v).find? fun x => x.state == .opening else none

/-- A snapshot goes LIVE (R53); a pass for which it is the target may begin (R140), before the waiting list is handed back: the
spec gives no order between these (DESIGN CHOICE, log entry 49). -/
def State.goLive (v : Nat) (s : State) : State :=
  match s.mayGoLive v with
  | none => s
  | some x =>
    let s := (s.onSnap v x.epoch fun r => { r with state := .live, creation := some s.clock.minute }).raise
      (.snapshotLive v x.epoch x.kind)
    if (s.roster? v).any fun e => e.pass == .waiting && e.target == some x.epoch then s.passTest else s

/-- The catalogue tests a volume for quiet; on going LIVE the waiting list is handed back, and the sweeps and walks that
waited for it are taken (R53, R54, R106, R110). The spec gives no order between them: the list is handed back first, then the
sweeps, then the walks (DESIGN CHOICE, log entry 49). -/
def takeQuiet (v : Nat) (w : Work) : Work :=
  match w.st.mayGoLive v with
  | none => w
  | some _ =>
    let w := w.on (·.goLive v)
    let active := w.st.rest.active.filter fun r => r.fenceVolume == v
    w.push (.handBack v :: ((active.filter fun r => r.state == .planning).map fun r => .sweep r.id)
      ++ ((active.filter fun r => r.state == .copying).map fun r => .walk r.id))

/-! ### Merges (R57, R58) -/

/-- A merge ends: the record becomes GONE, the merge start runs, and a deferred take is made or falls due, in this order
(R58, R133; DEDUCED, log entry 11). -/
def endMerge (v : Nat) (m : Merge) (w : Work) : Work :=
  takeDeferred v (w.on fun s =>
    (((s.onCat fun c => { c with snaps := c.snaps.filter fun x => !(x.volume == v && x.epoch == m.epoch) }).onVolume v
      fun e => { e with merge := none }).raise (.snapshotGone v m.epoch m.freed)).mergeStart v)

/-- The entries of the merging snapshot not yet visited. -/
def State.unvisited (s : State) (v : Nat) (m : Merge) : List Entry :=
  s.pres.index.filter fun e => e.volume == v && e.interval == m.epoch && m.cursor ≤ e.block

/-- An entry is re-keyed to another interval, keeping the rest (R57, R72). -/
def State.rekey (e : Entry) (y : Nat) (s : State) : State :=
  ((s.onPres fun p =>
      { p with index := insertSorted entryBefore { e with interval := y }
                 (p.index.filter fun x => !(x.volume == e.volume && x.block == e.block && x.interval == e.interval)) }
    ).onChangeCount e.volume e.interval (· - 1)).onChangeCount e.volume y (· + 1)

/-- The cursor of a merge passes a block. -/
def State.passMerge (v b freed : Nat) (s : State) : State :=
  s.onVolume v fun e =>
    { e with merge := e.merge.map fun m => { m with cursor := b + 1, freed := m.freed + freed } }

/-- MERGE_STEP: the walk of a volume's merge takes its next entry whole; after the last one the merge ends in the same
event (R57, R58). A deferred take that is due is made first, in place of the walk's step (R133; DESIGN CHOICE, log entry
11); no run comes to this, since a take is left due only up to the next command, which is the TAKE SNAPSHOT it is left for. -/
def takeMergeStep (v : Nat) (w : Work) : Work :=
  let s := w.st
  if s.mgmt.service ≠ .serving ∧ s.mgmt.service ≠ .pausing then w
  else if s.takeDue v then makeDeferred v w
  else
    match (s.volume? v).bind (·.merge) with
    | none => w
    | some m =>
      match leastBy (·.block) (s.unvisited v m) with
      | none => endMerge v m w
      | some e =>
        let kept := match m.target with
          | none => true
          | some y => (s.entry? v e.block y).isSome
        if kept && e.copying then w
        else
          let w := match m.target, kept with
            | some y, false => w.on fun s => (s.rekey e y).passMerge v e.block 0
            | _, _ =>
              ((w.on fun s => (s.freeEntry e).passMerge v e.block (if e.slot?.isSome then 1 else 0)).mark e.owner?).push
                [.retries]
          match (w.st.volume? v).bind (·.merge) with
          | none => w
          | some m => if (w.st.unvisited v m).isEmpty then endMerge v m w else w

/-! ### Rescue (R59, R69, R70) -/

/-- The snapshot that rescue retires: NIGHTLY, LIVE, unheld, on a volume with no merge; the earliest creation minute, and
at equal minutes the lower volume. -/
def State.rescueChoice (s : State) : Option Snapshot :=
  leastBy (fun x => x.creation.getD 0) (s.cat.snaps.filter fun x =>
    x.kind == .nightly && x.state == .live && x.holds.isEmpty && !s.hasSnap x.volume .merging)

/-- RESCUE_EXPIRY, when the rescue timer has run out while below-low is set (R70). -/
def State.takeRescue (s : State) : State :=
  if (s.mgmt.service = .serving ∨ s.mgmt.service = .pausing) ∧ s.pres.rescueTimer = some 0 ∧ s.pres.belowLow = true then
    let s := match s.rescueChoice with
      | some x => (s.retire x.volume x.epoch).raise (.rescueRetire (some x.volume) x.epoch s.pres.free.length)
      | none => s.raise (.rescueRetire none 0 s.pres.free.length)
    s.onPres fun p => { p with rescueTimer := some p.rescueMinutes }
  else s

/-! ### RESTART (R54, R169) -/

/-- RESTART empties an intake, each request answered NOT_SERVING (R169). -/
def State.emptyIntake (s : State) (l : Link) : State :=
  let queue := (s.intake l).queue
  let s := queue.foldl (fun s x => s.answer l x.1 (bareReply x.2 .notServing)) s
  s.onLink l fun i => { i with queue := [], held := false }

/-- RESTART empties a waiting list, each request answered NOT_SERVING (R54). -/
def State.emptyWaiting (s : State) (v : Volume) : State :=
  (v.waiting.foldl (fun s x => s.answer x.link x.seq (preserveReply x.req .notServing 0 0)) s).onVolume v.volume fun e =>
    { e with waiting := [] }

end Sys2Proof.Machine
end

