-- ==== Sys2Proof/Machine/Answers.lean ====
section
/-! DEFINITION. Answers: the replies to pending preservations, the settling and faulting of preservation copies, and the
replies and timeouts of store operations, handed to the clients (R79 to R81, R84, R89 to R92, R96). -/

namespace Sys2Proof.Machine

/-! ### Pending preservations (R79 to R81) -/

/-- A pending preservation waits for nothing more (R81). -/
def PendingPreserve.complete (p : PendingPreserve) : Bool := p.own.isEmpty && p.waitsOn.isEmpty && p.gate.isEmpty

/-- The blocks that faulted, each once, in ascending order. -/
def PendingPreserve.faultedBlocks (p : PendingPreserve) : List Nat :=
  ((List.range p.count).map (p.first + ·)).filter p.faulted.contains

/-- The reply to a pending preservation of a server link (R81). -/
def PendingPreserve.reply (p : PendingPreserve) : ServerReply :=
  .preserve (if p.faulted.isEmpty then .preserved else .faulted) p.volume p.first p.newCount p.alreadyCount 0 0 p.faultedBlocks

/-- A pending preservation is answered and removed: the fencing test, the test for quiet and the fall of the link's count
follow (R53, R78, R81, R109). -/
def answerPending (p : PendingPreserve) (w : Work) : Work :=
  match p.who with
  | .link l seq =>
    (w.on (·.answer l seq p.reply)).push ([.fencing p.volume, .quiet p.volume] ++ if p.counted then [.linkFall l] else [])
  | .restore id => (restoreAnswered id p w).push [.quiet p.volume]

/-- Every complete pending preservation is answered (R81), in the order they were made (DESIGN CHOICE, log entry 41). -/
def answerPendings (w : Work) : Work :=
  let ready := w.st.pres.pendings.filter PendingPreserve.complete
  let w := w.on (·.onPres fun p => { p with pendings := p.pendings.filter fun p => !p.complete })
  ready.foldl (fun w p => answerPending p w) w

/-- A slot's entry has settled or been removed: it leaves the lists of the pending preservations (R79, R80). -/
def PendingPreserve.without (slot : Nat) (p : PendingPreserve) : PendingPreserve :=
  { p with own := p.own.filter fun x => x.2 != slot, waitsOn := p.waitsOn.filter fun x => x.2 != slot }

/-- A removed entry's block joins the faulted blocks of the pending preservations that counted on it (R80). -/
def PendingPreserve.fault (slot : Nat) (p : PendingPreserve) : PendingPreserve :=
  { p with faulted := p.faulted ++ (((p.own ++ p.waitsOn).filter fun x => x.2 == slot).map (·.1)) }

/-- Change every pending preservation. -/
def State.onPendings (f : PendingPreserve → PendingPreserve) (s : State) : State :=
  s.onPres fun p => { p with pendings := p.pendings.map f }

/-- What waits at a COPYING entry goes on: walks, and the duplication engine (R110, R143). -/
def resumeReaders (w : Work) : Work := w.push [.walks, .dup]

/-- A preservation copy is complete: its entry settles, and the replies and the test for quiet follow (R79). -/
def copyDone (slot : Nat) (w : Work) : Work :=
  match w.st.copyingEntry slot with
  | none => w
  | some e =>
    let w := w.on fun s => (s.settleEntry slot).onPendings (PendingPreserve.without slot)
    resumeReaders ((answerPendings w).push [.quiet e.volume])

/-- A preservation copy has faulted: its entry is removed, its slot freed after a READ fault and quarantined after a WRITE
fault, and those who counted on it are told (R80). -/
def copyFaulted (slot : Nat) (phase : Phase) (w : Work) : Work :=
  match w.st.copyingEntry slot with
  | none => w
  | some e =>
    let w := w.on fun s =>
      (match phase with
        | .first => s.freeEntry e
        | .copyWrite => s.quarantineEntry e).onPendings fun p => (p.fault slot).without slot
    let w := w.mark e.owner?
    (resumeReaders ((answerPendings w).push [.quiet e.volume])).push [.retries]

/-! ### RESTART (R84) -/

/-- RESTART removes a COPYING entry: its slot goes to the free list, its blocks fault, and the owner's grace is evaluated
(R17, R84). -/
def State.restartEntry (s : State) (e : Entry) : State :=
  let s := ((s.dropEntry e).slotToFree e.slot?).evalPinOwner e.owner?
  match e.slot? with
  | some n => s.onPendings fun p => (p.fault n).without n
  | none => s

/-- RESTART answers every pending preservation of a server link FAULTED (R84); the restore engine tests its fences on the
volume, whose walks start nothing in PAUSED, and the catalogue tests the volume for quiet (R53, R109). -/
def State.restartPending (s : State) (p : PendingPreserve) : State :=
  match p.who with
  | .link l seq =>
    let s := s.answer l seq (.preserve .faulted p.volume p.first p.newCount p.alreadyCount 0 0 p.faultedBlocks)
    (s.fencingTest p.volume).goLive p.volume
  | .restore _ => s

/-- RESTART's unwinding of the preservation unit: the COPYING entries are removed in index order, the links' pending
preservations are answered, in the order they were made (DESIGN CHOICE, log entry 41), and the pool warnings are evaluated
once (R84). -/
def State.restartPreservation (s : State) : State :=
  let copying := s.pres.index.filter Entry.copying
  let s := copying.foldl State.restartEntry s
  let links := s.pres.pendings.filter fun p => p.who.restoreId.isNone
  let s := s.onPres fun p => { p with pendings := p.pendings.filter fun p => p.who.restoreId.isSome }
  let s := links.foldl State.restartPending s
  (copying.foldl (fun s e => s.goLive e.volume) s).evalPool

/-- RESTART ends the pending preservations of a restore (R84, R120); the catalogue tests their volume. -/
def State.endRestorePendings (id : Nat) (s : State) : State :=
  let mine := s.pres.pendings.filter fun p => p.who == .restore id
  let s := s.onPres fun p => { p with pendings := p.pendings.filter fun p => !(p.who == .restore id) }
  mine.foldl (fun s p => s.goLive p.volume) s

end Sys2Proof.Machine
end

