-- ==== Sys2Proof/Machine/SaveLoad.lean ====
section
/-! DEFINITION. Saving and loading the table image: the steps of a save, the reads and checks of a load, and how each ends
(R178 to R181). -/

namespace Sys2Proof.Machine

/-! ### Handing over (R178, R180) -/

/-- The next operations of an image job, up to 32 at the mover, each of up to 64 blocks: the next block and the number at
the mover afterwards; the fuel is the number of tags. -/
def State.handImage (op : OpKind) (extent : Nat) : Nat → Nat → Nat → State → Nat × Nat × State
  | 0, next, out, s => (next, out, s)
  | n + 1, next, out, s =>
    if out < 32 ∧ next < extent then
      let length := min 64 (extent - next)
      State.handImage op extent n (next + length) (out + 1) (s.handService op next length)
    else (next, out, s)

/-- Change the save or load in progress. -/
def State.onJob (j : Option ImageJob) (s : State) : State := s.onMgmt fun m => { m with job := j }

/-! ### Saving (R178, R179) -/

/-- SAVE TABLES (R178). Both headers carry the minute at which it is taken, should the save run over a minute advance
(DESIGN CHOICE, log entry 45). -/
def takeSaveTables (seq : U16) (w : Work) : Work :=
  let s := w.st
  if s.mgmt.service ≠ .paused then w.on (·.refuse seq 46 .wrongState)
  else
    let c := s.counts
    let s := (s.enterService .saving .saveTables).reply seq 46 .accepted 0 .empty
    let s := s.onJob (some (.save c s.pres.poolSize s.clock.minute c.extent .unfinished 1 1 0 false))
    { w with st := s.handService .write 0 1 }.touch

/-- A save ends; a held SEALED is taken in the same event (R178, R179). -/
def endSave (outcome : Status) (written extent : Nat) (w : Work) : Work :=
  (w.on fun s =>
    (((s.onJob none).raise (.saveEnded outcome written extent)).enterService .paused .saveEnd).takeHeldSealed).push [.dup]

/-- An operation of the save has its outcome: the save goes on to its next WRITEs or its next step, or ends (R178). -/
def saveOutcome (length : Nat) (ok : Bool) (w : Work) : Work :=
  match w.st.mgmt.job with
  | some (.save c size minute extent step next out written faulted) =>
    let out := out - 1
    let written := if ok then written + length else written
    let faulted := faulted || !ok
    let keep (step : SaveStep) (next out : Nat) (s : State) : State :=
      s.onJob (some (.save c size minute extent step next out written faulted))
    if faulted then
      if out = 0 then endSave .storeFault written extent w else w.on (keep step next out)
    else
      match step with
      | .complete => endSave .ok written extent w
      | _ =>
        if step = .body ∧ out = 0 ∧ extent ≤ next then
          (w.on fun s => (keep .complete next 1 s).handService .write 0 1).touch
        else
          let (next, out, s) := w.st.handImage .write extent 32 next out
          { w with st := keep .body next out s }.touch
  | _ => w

/-! ### Loading (R180, R181) -/

/-- LOAD TABLES (R180). -/
def takeLoadTables (seq : U16) (w : Work) : Work :=
  let s := w.st
  if s.mgmt.service ≠ .starting then w.on (·.refuse seq 47 .wrongState)
  else
    let s := (s.enterService .loading .loadTables).reply seq 47 .accepted 0 .empty
    { w with st := (s.onJob (some (.load none 1 1 0 false []))).handService .read 0 1 }.touch

/-- Every staged table takes its power-on value (R181). -/
def State.resetTables (s : State) : State :=
  { s with quota := { s.quota with owners := [], policy := Quota.reset.policy }
           cat := Catalogue.reset, pres := Preservation.reset, sched := Schedule.reset }

/-- A load fails (R181). -/
def State.failLoad (outcome : Status) (check : CheckGroup) (read : Nat) (s : State) : State :=
  (((s.onJob none).resetTables).raise (.loadEnded outcome check read)).enterService .starting .loadEnd

/-- A snapshot record as a load installs it: MERGING as RETIRE_PENDING (R63, R181). -/
def Snapshot.installed (x : Snapshot) : Snapshot :=
  match x.state with
  | .merging => { x with state := .retirePending }
  | _ => x

/-- The tables as a load installs them (R18, R63, R85, R138). -/
def State.install (t : Tables) (s : State) : State :=
  { s with
    quota := { s.quota with owners := t.owners, policy := t.policy }
    cat := { volumes := t.volumes, nextEpoch := t.nextEpoch, snaps := t.snaps.map Snapshot.installed }
    pres :=
      { Preservation.reset with
        index := t.index, indexLow := decide (Config.maxEntries - t.index.length < Config.indexLowMark),
        poolSize := t.poolSize, free := t.free, quarantine := t.quarantine, lowMark := t.lowMark,
        rescueMinutes := t.rescueMinutes }
    sched :=
      { Schedule.reset with
        live := t.live, next := t.next, nextWritten := t.nextWritten, mode := t.mode, counter := t.counter,
        roster := t.roster } }

/-- A load succeeds: the tables are installed, grace is evaluated and tested on every owner, and the pool warnings are
evaluated (R181). -/
def State.finishLoad (t : Tables) (read : Nat) (s : State) : State :=
  let s := (s.onJob none).install t
  let s := t.owners.foldl (fun s r => (s.evalGrace r.owner).testGrace r.owner) s
  ((s.evalPool).raise (.loadEnded .ok .none read)).enterService .paused .loadEnd

/-- The bytes of the image's block 0. -/
def imageHeader (blocks : List (Nat × List Byte)) : List Byte := ((blocks.find? fun b => b.1 == 0).map (·.2)).getD []

/-- The bytes of the image from block 1 on. -/
def imageRest (blocks : List (Nat × List Byte)) : List Byte :=
  ((blocks.filter fun b => b.1 != 0).map (·.2)).flatten

/-- Every block of the image is in: the checks are made, and the load ends (R180, R181). -/
def State.checkImage (blocks : List (Nat × List Byte)) (read : Nat) (s : State) : State :=
  match readHeader (imageHeader blocks) with
  | none => s.failLoad .badImage .header read
  | some h =>
    match readImage h (imageRest blocks) with
    | .error g => s.failLoad .badImage g read
    | .ok t => s.finishLoad t read

/-- A read of the load has its outcome: the content, or none for a fault (R180). -/
def loadOutcome (address length : Nat) (content : Option (List Byte)) (w : Work) : Work :=
  match w.st.mgmt.job with
  | some (.load extent next out read faulted blocks) =>
    let out := out - 1
    let read := if content.isSome then read + length else read
    let faulted := faulted || content.isNone
    let blocks := match content with
      | some c => insertSorted (fun a b => a.1 < b.1) (address, c) blocks
      | none => blocks
    if faulted then
      if out = 0 then w.on (·.failLoad .storeFault .none read)
      else w.on (·.onJob (some (.load extent next out read true blocks)))
    else
      match extent.or ((readHeader (imageHeader blocks)).map (·.extent)) with
      | none => w.on (·.failLoad .badImage .header read)
      | some n =>
        if out = 0 ∧ n ≤ next then w.on (·.checkImage blocks read)
        else
          let (next, out, s) := w.st.handImage .read n 32 next out
          { w with st := s.onJob (some (.load (some n) next out read false blocks)) }.touch
  | _ => w

end Sys2Proof.Machine
end

