-- ==== Sys2Proof/Machine/Store.lean ====
section
/-! DEFINITION. The store channel's replies and timeouts: matching a reply to its tag, the WRITE of a copy, the outcome of
a phase and whom it is handed to (R89 to R92, R96). -/

namespace Sys2Proof.Machine

/-- What ends a phase (R89, R91). -/
inductive PhaseEnd
  | done
  | data (content : List Byte)
  | fault (cause : FaultCause)
  deriving DecidableEq, Repr

/-- The operation kind of an issued phase. -/
def Issued.kind (i : Issued) : OpKind :=
  match i.phase with
  | .first => i.op.op
  | .copyWrite => .write

/-- A matched reply of the wrong kind, or of the wrong length, counts as FAULT with the reason REFUSED (R89). -/
def Issued.judge (i : Issued) (e : PhaseEnd) : PhaseEnd :=
  match e, i.kind with
  | .done, .read => .fault (.array .refused)
  | .data c, .read => if c.length = Config.blockBytes * i.op.length then .data c else .fault (.array .refused)
  | .data _, _ => .fault (.array .refused)
  | e, _ => e

/-- The tag and the phase that a reply answers (R89). -/
def State.matchReply (s : State) (tag : Byte) (seq : U16) : Option (Fin 32 × Issued) :=
  if h : tag.toNat < 32 then
    match s.mover.tag ⟨tag.toNat, h⟩ with
    | some i => if i.sentSeq = seq then some (⟨tag.toNat, h⟩, i) else none
    | none => none
  else none

/-- A live read leaves the outstanding-live-read list, and the gates that held it are tested (R81, R96). -/
def leaveLiveReads (r : ReadId) (w : Work) : Work :=
  answerPendings (w.on fun s =>
    (s.onMover fun m => { m with liveReads := m.liveReads.filter fun x => x.read != r }).onPendings fun p =>
      { p with gate := p.gate.filter fun x => x != r })

/-- The outcome of an operation, whose tag is free, is handed to its client and to the blocks that watch it (R92). -/
def handOutcome (i : Issued) (e : PhaseEnd) (w : Work) : Work :=
  let faulted := match e with
    | .fault _ => true
    | _ => false
  match i.op.client with
  | .preservation _ =>
    match i.op.thenWrite with
    | some (_, slot) => if faulted then copyFaulted slot i.phase w else copyDone slot w
    | none => w
  | .restore id b => restoreOutcome id b i.op.op faulted w
  | .duplication r =>
    let w := match e with
      | .data c => w.on (·.readDone r c)
      | _ => w.on (·.readFaulted r)
    let w := match i.op.area with
      | .volume _ => leaveLiveReads r w
      | _ => w
    (w.on State.testAbandonEnd).push [.dup]
  | .service =>
    match i.op.op with
    | .read => loadOutcome i.op.address i.op.length (match e with | .data c => some c | _ => none) w
    | _ => saveOutcome i.op.length (!faulted) w

/-- A phase ends: a copy's READ is followed by its WRITE on the same tag; otherwise the tag is freed, a fault raises
STORE_FAULT, and the outcome is handed over (R90, R92). -/
def endPhase (t : Fin 32) (i : Issued) (e : PhaseEnd) (w : Work) : Work :=
  match i.phase, i.op.thenWrite, e with
  | .first, some (area, address), .data c =>
    w.on (·.sendPhase t i.op .copyWrite .write area address 1 c)
  | _, _, .fault cause => handOutcome i e ((w.on fun s => (s.freeTag t).raiseStoreFault i cause).touch)
  | _, _, _ => handOutcome i e ((w.on (·.freeTag t)).touch)

/-- A reply of the array is taken, or discarded when it matches no issued phase (R89). -/
def takeStoreReply (tag : Byte) (seq : U16) (e : PhaseEnd) (w : Work) : Work :=
  match w.st.matchReply tag seq with
  | some (t, i) => endPhase t i (i.judge e) w
  | none => w

/-- The store timeout of a phase, when its remaining seconds have run out (R91). -/
def takeStoreTimeout (t : Fin 32) (w : Work) : Work :=
  match w.st.mover.tag t with
  | some i => if i.remaining = 0 then endPhase t i (.fault .timeout) w else w
  | none => w

end Sys2Proof.Machine
end

