-- ==== Sys2Proof/Machine/Service.lean ====
section
/-! DEFINITION. The service states, RESTART, the clock, the timers and the status (R175 to R177, R182 to R185). -/

namespace Sys2Proof.Machine

/-- The eight links in order. -/
def allLinks : List Link := List.finRange 8

/-! ### Opening and pausing (R176, R177) -/

/-- OPEN SERVICE: every block resumes its held work (R176). -/
def takeOpenService (seq : U16) (w : Work) : Work :=
  let s := w.st
  match s.mgmt.service with
  | .serving => w.on (·.reply seq 44 .ok alreadyFlag (.stateLeft .serving))
  | .pausing | .saving | .loading => w.on (·.refuse seq 44 .wrongState)
  | left =>
    let s := ((s.enterService .serving .openService).onMover fun m => { m with mode := .openMode }).reply seq 44 .ok 0
      (.stateLeft left)
    let lists : List Task := s.cat.volumes.map fun v => .handBack v.volume
    let sweeps : List Task := (s.rest.active.filter fun r => r.state == .planning).map fun r => .sweep r.id
    let tasks : List Task := lists ++ [.mergeStarts, .schedule] ++ sweeps ++ [.walks, .retries, .dup, .passTest]
    (Work.push tasks { w with st := s }).touch

/-- The merge start runs for every volume (R56). -/
def State.mergeStarts (s : State) : State := s.cat.volumes.foldl (fun s v => s.mergeStart v.volume) s

/-- PAUSE SERVICE: the mover drains, or is drained already; the intakes take their heads by the new state (R163, R177). -/
def takePauseService (seq : U16) (w : Work) : Work :=
  let s := w.st
  match s.mgmt.service with
  | .starting | .saving | .loading => w.on (·.refuse seq 45 .wrongState)
  | .pausing => w.on (·.reply seq 45 .accepted alreadyFlag .empty)
  | .paused => w.on (·.reply seq 45 .ok alreadyFlag .empty)
  | .serving =>
    let s :=
      if s.mover.idle then (s.enterService .paused .pauseService).enterDrained
      else (s.enterService .pausing .pauseService).onMover fun m => { m with mode := .draining }
    { w with st := s.reply seq 45 .accepted 0 .empty }.push (allLinks.map .intake)

/-! ### RESTART (R182) -/

/-- Step 1: the state, and the mover, whose discarding may leave volumes quiet (R62, R99). -/
def State.restartMover (s : State) : State :=
  let s := (s.onMgmt fun m => { m with service := .paused }).discardMover
  s.cat.volumes.foldl (fun s v => s.goLive v.volume) s

/-- Step 2: a save is cut short, and a held SEALED is taken. -/
def State.restartSave (s : State) : State :=
  let s := match s.mgmt.job with
    | some (.save _ _ _ extent _ _ _ written _) => (s.onJob none).raise (.saveEnded .restart written extent)
    | _ => s
  s.takeHeldSealed

/-- Step 3: the intakes and the waiting lists are emptied. -/
def State.restartLinks (s : State) : State :=
  let s := allLinks.foldl State.emptyIntake s
  s.cat.volumes.foldl State.emptyWaiting s

/-- Step 5: the active restores in ascending id order, then the queued ones (R120). -/
def State.restartRestores (s : State) : State :=
  let active := s.rest.active.foldl (fun l r => insertSorted (fun a b => a.id < b.id) r l) []
  let s := active.foldl (fun s r => (s.endRestorePendings r.id).restartActive r) s
  s.rest.queue.foldl (fun s r => s.restartQueued r) s

/-- Step 6: every SERVER claim lapses, in list order (R40). -/
def State.restartClaims (s : State) : State :=
  s.quota.claims.foldl (fun s c => match c.kind with
    | .server _ _ => s.lapse c
    | .restore => s) s

/-- RESTART: its eight steps in order (R182). -/
def takeRestart (seq : U16) (w : Work) : Work :=
  let left := w.st.mgmt.service
  match left with
  | .starting | .loading => w.on (·.refuse seq 48 .wrongState)
  | _ =>
    w.on fun s =>
      let s := s.restartMover.restartSave.restartLinks.restartPreservation.restartRestores.restartClaims.restartDuplication
      (s.raise (.serviceChanged left .paused .restart)).reply seq 48 .ok 0 (.stateLeft left)

/-! ### Clock and timers (R183, R184) -/

/-- SET CLOCK (R183). -/
def takeSetClock (seq : U16) (minute : U32) (s : State) : State :=
  if s.mgmt.service = .loading then s.refuse seq 50 .wrongState
  else
    (({ s with clock := { minute := minute.toNat, seconds := 0 } } : State).testAllGrace).reply seq 50 .ok 0
      (.number s.clock.minute)

/-- SET TIMERS (R184). -/
def takeSetTimers (seq : U16) (q : TimersReq) (s : State) : State :=
  if s.mgmt.service = .loading then s.refuse seq 49 .wrongState
  else
    let t := s.timers
    let t : Timers :=
      { claimLifetime := optClamp 5 600 q.claimLifetime t.claimLifetime
        storeTimeout := optClamp 1 30 q.storeTimeout t.storeTimeout
        commitTimeout := optClamp 10 600 q.commitTimeout t.commitTimeout
        silenceTime := optClamp 30 3600 q.silenceTime t.silenceTime
        stallLimit := optClamp 1 120 q.stallLimit t.stallLimit
        faultThreshold := optClamp 1 254 q.faultThreshold t.faultThreshold }
    let clamped := optClamped 5 600 q.claimLifetime || optClamped 1 30 q.storeTimeout
      || optClamped 10 600 q.commitTimeout || optClamped 30 3600 q.silenceTime || optClamped 1 120 q.stallLimit
      || optClamped 1 254 q.faultThreshold
    ({ s with timers := t } : State).reply seq 49 .ok (flagIf clamped clampedFlag) (.timers t)

/-- A remaining time after one more second or minute. -/
def down (n : Nat) : Nat := n - 1

/-- The seconds tick on the claim lifetimes (R32). -/
def Claim.tick (c : Claim) : Claim :=
  match c.kind with
  | .server l n => { c with kind := .server l (down n) }
  | .restore => c

/-- The seconds tick on a consignment's deadline (R147). -/
def Consignment.tick (c : Consignment) : Consignment :=
  match c.state with
  | .sent n => { c with state := .sent (down n) }
  | _ => c

/-- The seconds tick on the offsite link: the deadlines while it is UP, the silence timer in UP and DEGRADED, the probe
timer; the answer deadline of a pass whose SEALED is held stops (R141, R147, R156, R157, R179). -/
def Offsite.tick (o : Offsite) : Offsite :=
  { o with
    pass := if o.link = .up ∧ o.heldSealed = none then
        o.pass.map fun p => { p with answerDeadline := p.answerDeadline.map down } else o.pass
    window := if o.link = .up then o.window.map Consignment.tick else o.window
    silence := if o.link = .silent then o.silence else o.silence + 1
    probeTimer := down o.probeTimer }

/-- The seconds tick on the issued phases (R91). -/
def Issued.tick (i : Issued) : Issued := { i with remaining := down i.remaining }

/-- An advance of the minute count on the rescue timer, the stall timers and the cycle counter (R69, R114, R125). -/
def State.minuteAdvance (s : State) : State :=
  let st := s.mgmt.service
  let s :=
    if st = .serving ∨ st = .pausing then s.onPres fun p => { p with rescueTimer := p.rescueTimer.map down } else s
  let s :=
    if st = .serving then
      s.onRest fun e =>
        { e with active := e.active.map fun r =>
            if r.state = .stalled then { r with stall := r.stall.map down } else r }
    else s
  if s.sched.state ≠ .stopped ∧ st ≠ .loading then
    s.onSched fun c => { c with advancesDue := c.advancesDue + 1 }
  else s

/-- SECONDS_TICK (R183). -/
def State.secondsTick (s : State) : State :=
  let s := s.onQuota fun q => { q with claims := q.claims.map Claim.tick }
  let s := s.onMover fun m => { m with tags := mapVector (Option.map Issued.tick) m.tags }
  let s := s.onOffsite Offsite.tick
  if s.clock.seconds < 59 then { s with clock := { s.clock with seconds := s.clock.seconds + 1 } }
  else ({ s with clock := { minute := minuteAfter s.clock.minute 1, seconds := 0 } } : State).minuteAdvance

/-! ### Status (R101, R185) -/

/-- The figures of one server link (R185). -/
def State.linkStatus (s : State) (l : Link) : LinkStatus :=
  { queueLength := (s.intake l).queue.length, headHeld := (s.intake l).held, copying := s.copyingPreserves l,
    openClaims := s.openClaims l, mark := (s.intake l).mark,
    waiting := (s.cat.volumes.map fun v => v.waiting.countP fun x => x.link == l).sum }

/-- The blocks written or read and the extent of a save or load in progress (R185). -/
def State.jobFigures (s : State) : Option Nat × Option Nat :=
  match s.mgmt.job with
  | none => (none, none)
  | some (.save _ _ _ extent _ _ _ written _) => (some written, some extent)
  | some (.load extent _ _ read _ _) => (some read, extent)

/-- READ STATUS (R185). In LOADING the figures of the tables are 0. The rule names no status: it is OK (DESIGN CHOICE, log
entry 40). -/
def takeReadStatus (seq : U16) (s : State) : State :=
  let tables := s.mgmt.service ≠ .loading
  let shown (n : Nat) : Nat := if tables then n else 0
  let m := s.mover
  s.reply seq 51 .ok 0 (.status
    { service := s.mgmt.service, minute := s.clock.minute, seconds := s.clock.seconds,
      noticeQueue := s.mgmt.notices.length, noticeCounter := s.mgmt.noticeCounter, mark := s.mgmt.mark,
      requestQueue := s.mgmt.queue.length, replyList := s.mgmt.replies.length,
      freeSlots := shown s.pres.free.length, quarantined := shown s.pres.quarantine.length,
      poolSize := shown s.pres.poolSize, lowMark := shown s.pres.lowMark, indexFree := shown s.indexFree,
      openClaims := shown s.quota.claims.length, restoreQueue := shown s.rest.queue.length,
      activeRestores := shown s.rest.active.length, schedule := if tables then some s.sched.state else none,
      counter := shown s.sched.counter, windowStart := shown s.sched.live.window,
      windowEnd := shown (s.sched.live.window + s.sched.live.length), link := s.offsite.link,
      faultCounter := s.offsite.faultCounter, mode := m.mode, preservationTags := m.tagsHeld Client.isPreservation,
      restoreTags := m.tagsHeld Client.isRestore, duplicationTags := m.tagsHeld Client.isDuplication,
      serviceTags := m.tagsHeld Client.isService, liveReads := m.liveReads.length, links := allLinks.map s.linkStatus,
      jobBlocks := s.jobFigures.1, jobExtent := s.jobFigures.2 })

end Sys2Proof.Machine
end

