-- ==== Sys2Proof/Machine/Drive.lean ====
section
/-! DEFINITION. One event: the tasks a change leaves are done depth first, each whole, and the mover grants at the end. Here
too the management link's requests are taken, arrivals are received and the sender sends (R93, R172 to R174). -/

namespace Sys2Proof.Machine

/-! ### Management requests (R172, R173) -/

/-- The block that owns a management request takes it (R173). -/
def takeMgmt (seq : U16) (r : MgmtRequest) (w : Work) : Work :=
  match r with
  | .writeOwner q => w.on (takeWriteOwner seq q)
  | .readOwner mode owner => w.on (takeReadOwner seq mode owner)
  | .removeOwner owner => w.on (takeRemoveOwner seq owner)
  | .setUsage owner held => w.on (takeSetUsage seq owner held)
  | .writePolicy q => w.on (takeWritePolicy seq q)
  | .erasePolicy index => w.on (takeErasePolicy seq index)
  | .defineVolume volume link => w.on (takeDefineVolume seq volume link)
  | .removeVolume volume => w.on (takeRemoveVolume seq volume)
  | .takeSnapshot volume label => takeTakeSnapshot seq volume label w
  | .retireSnapshot volume epoch => w.on (takeRetireSnapshot seq volume epoch)
  | .listSnapshots volume => w.on (takeListSnapshots seq volume)
  | .lookupBlock volume block epoch => w.on (takeLookupBlock seq volume block epoch)
  | .setPool q => w.on (takeSetPool seq q)
  | .clearQuarantine => takeClearQuarantine seq w
  | .requestRestore q => takeRequestRestore seq q w
  | .cancelRestore id => takeCancelRestore seq id w
  | .readRestore id => w.on (takeReadRestore seq id)
  | .writeSchedule q => w.on (takeWriteSchedule seq q)
  | .startSchedule mode => w.on (takeStartSchedule seq mode)
  | .stopSchedule => takeStopSchedule seq w
  | .clearCycle => w.on (takeClearCycle seq)
  | .writeRoster volume keep => takeWriteRoster seq volume keep w
  | .eraseRoster volume => w.on (takeEraseRoster seq volume)
  | .setBase volume epoch => takeSetBase seq volume epoch w
  | .readSchedule => w.on (takeReadSchedule seq)
  | .readDuplication => w.on (takeReadDuplication seq)
  | .openService => takeOpenService seq w
  | .pauseService => takePauseService seq w
  | .saveTables => takeSaveTables seq w
  | .loadTables => takeLoadTables seq w
  | .restart => takeRestart seq w
  | .setTimers q => w.on (takeSetTimers seq q)
  | .setClock minute => w.on (takeSetClock seq minute)
  | .readStatus => w.on (takeReadStatus seq)

/-- The interpreter takes the request at the head of its queue while the reply list holds fewer than 4, and then the
next (R173). The evaluations left are made before the blocks take anything further (R23). -/
def takeMgmtHead (w : Work) : Work :=
  match w.st.mgmt.queue with
  | [] => w
  | (seq, r) :: rest =>
    if w.st.mgmt.replies.length < 4 then
      (takeMgmt seq r (w.evaluate.on (·.onMgmt fun m => { m with queue := rest }))).push [.mgmtTake]
    else w

/-- A good frame arrives on the management link: it joins the request queue; at 4 it is answered BUSY, or discarded when
the reply list is full (R172). -/
def arriveMgmt (seq : U16) (r : MgmtRequest) (w : Work) : Work :=
  let m := w.st.mgmt
  if m.queue.length < 4 then
    (w.on (·.onMgmt fun m => { m with mark := .none, queue := m.queue ++ [(seq, r)] })).push [.mgmtTake]
  else if m.replies.length < 8 then
    w.on fun s => (s.onMgmt fun m => { m with mark := .none }).refuse seq (mgmtCode r) .busy
  else w

/-- The mark that a discarded frame sets (R172). -/
def markMgmt (m : FrameMark) (w : Work) : Work := w.on (·.onMgmt fun x => { x with mark := m })

/-- What a receiver makes of a frame on the management link (R172, R186). -/
def receiveMgmt (r : Received) (w : Work) : Work :=
  match r with
  | .lengthFault => markMgmt .length w
  | .checkFault => markMgmt .check w
  | .frame kind seq body =>
    match mgmtUnits kind with
    | none => markMgmt .kind w
    | some units =>
      if body.length ≠ 8 * units then markMgmt .length w
      else
        match mgmtRequestOf kind.toNat body with
        | some q => arriveMgmt seq q w
        | none => markMgmt .kind w

/-- The sender of the management link is free: it sends the oldest reply, or else the oldest notice; requests that waited
for the reply list are taken (R173, R174). -/
def takeSender (w : Work) : Work :=
  match w.st.mgmt.replies, w.st.mgmt.notices with
  | r :: rest, _ =>
    (w.on fun s => (s.send (.mgmtReply r)).onMgmt fun m => { m with replies := rest }).push [.mgmtTake]
  | [], n :: rest => w.on fun s => (s.send (.notice n)).onMgmt fun m => { m with notices := rest }
  | [], [] => w

/-! ### Tasks -/

/-- Do one task. -/
def runTask (t : Task) (w : Work) : Work :=
  match t with
  | .mgmtTake => takeMgmtHead w
  | .intake l => takeIntake l w
  | .linkFall l => takeLinkFall l w
  | .handBack v => takeHandBack v w
  | .quiet v => takeQuiet v w
  | .fencing v => takeFencing v w
  | .walk id => takeWalk id w
  | .walks => takeWalks w
  | .retries => takeRetries w
  | .schedule => takeSchedule w
  | .sweep id => takeSweep id w
  | .snapVisit v => takeSnapVisit v w
  | .cycleStep n => takeCycleStep n w
  | .mergeStarts => w.on State.mergeStarts
  | .passTest => w.on State.passTest
  | .dup => takeDup w

/-- Do the tasks left, those a task leaves before the ones behind it; with none left, the evaluations of the event are made
(R23, R72), and the mover makes its test if an operation was placed or a tag was freed (R93, R97). -/
def drive : Nat → Work → State
  | 0, w => w.st
  | n + 1, w =>
    match w.todo with
    | [] => if w.touched then w.evaluate.st.moverEnd else w.evaluate.st
    | t :: rest =>
      let r := runTask t { w with todo := [] }
      drive n { r with todo := r.todo ++ rest }

/-- More tasks than one event can leave. -/
def eventFuel : Nat := 18446744073709551616

/-- One event: a change, and all that follows from it in the same event. -/
def State.event (f : Work → Work) (s : State) : State := drive eventFuel (f { st := s, todo := [], touched := false })

end Sys2Proof.Machine
end

