-- ==== Sys2Proof/Machine/Layouts.lean ====
section
/-! DEFINITION. The frames the part sends, as bytes: replies, notices, store requests and offsite frames (R186 to R190).
Where the spec lists no code and no place, the bytes are a free value (`Config.unlisted`). -/

namespace Sys2Proof.Machine

/-! ### Codes (R187, R190) -/

/-- The status, reason and outcome codes. -/
def statusCode : Status → Nat
  | .ok => 0
  | .accepted => 1
  | .granted => 2
  | .partialGrant => 3
  | .settled => 4
  | .released => 5
  | .preserved => 6
  | .faulted => 7
  | .cancelled => 8
  | .stale => 9
  | .endOfTable => 10
  | .notNeeded => 11
  | .done => 12
  | .failed => 13
  | .abandoned => 14
  | .busy => 32
  | .notServing => 33
  | .wrongState => 34
  | .badField => 35
  | .wrongLink => 36
  | .unknownOwner => 37
  | .unknownVolume => 38
  | .ownerTableFull => 39
  | .claimTableFull => 40
  | .overLimit => 41
  | .fenced => 42
  | .indexFull => 43
  | .poolEmpty => 44
  | .noSnapshot => 45
  | .snapshotFull => 46
  | .inUse => 47
  | .noRestore => 48
  | .noEntry => 49
  | .storeFault => 50
  | .badImage => 51
  | .opening => 64
  | .full => 65
  | .passActive => 66
  | .late => 67
  | .retired => 68
  | .windowClosed => 69
  | .stopped => 70
  | .attempts => 71
  | .restart => 72

/-- Service states (R190). -/
def serviceCode : ServiceState → Nat
  | .starting => 0
  | .serving => 1
  | .pausing => 2
  | .paused => 3
  | .saving => 4
  | .loading => 5

/-- Causes of SERVICE_CHANGED: the request's kind code, or 240 to 242 (R190). -/
def causeCode : Cause → Nat
  | .openService => 44
  | .pauseService => 45
  | .saveTables => 46
  | .loadTables => 47
  | .restart => 48
  | .drain => 240
  | .saveEnd => 241
  | .loadEnd => 242

/-- Offsite link states (R190). -/
def linkCode : LinkState → Nat
  | .up => 0
  | .degraded => 1
  | .silent => 2

/-- Check groups of LOAD_ENDED (R190). -/
def checkCode : CheckGroup → Nat
  | .none => 0
  | .header => 1
  | .counts => 2
  | .owners => 3
  | .catalogue => 4
  | .pool => 5
  | .schedule => 6

/-- Snapshot kinds, with the codes that R192 lists, in replies and notices too (DEDUCED, log entry 31). -/
def snapKindCode : SnapKind → Nat
  | .manual => 0
  | .nightly => 1

/-- Store operations in a STORE_FAULT (R190). -/
def opCode : OpKind → Nat
  | .read => 0
  | .write => 1
  | .free => 2

/-- Areas (R189). -/
def areaCode : Area → Nat
  | .volume _ => 0
  | .pool => 1
  | .tables => 2

/-- The volume byte of an area, or zero (R189). A STORE_FAULT for POOL or TABLES has this zero too, where R92 names no volume
and R190 writes a volume of "none" as 255 (DESIGN CHOICE, log entry 53). -/
def areaVolume : Area → Nat
  | .volume v => v
  | _ => 0

/-- The array's reasons (R189). -/
def reasonCode : ArrayReason → Nat
  | .media => 1
  | .range => 2
  | .refused => 3

/-- The reasons of a store fault, 4 for TIMEOUT (R190). -/
def faultCode : FaultCause → Nat
  | .array r => reasonCode r
  | .timeout => 4

/-- The phase byte of a STORE_FAULT: READ 0, WRITE 1; none is listed for a FREE (R190). -/
def phaseCode (op : OpKind) (phase : Phase) : Nat :=
  match op, phase with
  | _, .copyWrite => 1
  | .read, .first => 0
  | .write, .first => 1
  | .free, .first => Config.unlisted "PHASE OF A FREE"

/-- The client byte and the restore id of a STORE_FAULT (R190). -/
def clientCodes : Client → Nat × Nat
  | .preservation _ => (0, 0)
  | .restore id _ => (1, id)
  | .duplication _ => (2, 0)
  | .service => (3, 0)

/-- A choice whose code the spec does not list. -/
def named (s : String) : Nat := Config.unlisted s

/-! ### Replies on a server link (R188) -/

/-- The faulted mask: bit i for the block first + i (R188). -/
def faultedMask (first : Nat) (faulted : List Nat) : Nat := (faulted.map fun b => 2 ^ (b - first)).sum

/-- The kind and body of a server-link reply. -/
def ServerReply.body : ServerReply → Nat × List Byte
  | .claim st grace ticket granted room lifetime =>
    (129, [b1 (statusCode st), 0, b1 ((grace.map graceCode).getD 0), 0] ++ toBe 4 ticket ++ toBe 4 granted ++ toBe 4 room
      ++ toBe 2 lifetime)
  | .settle st flags owner used held =>
    (130, [b1 (statusCode st), flags, 0, 0] ++ toBe 4 owner ++ toBe 4 used ++ toBe 4 held)
  | .release st flags held => (131, [b1 (statusCode st), flags, 0, 0] ++ toBe 4 held)
  | .preserve st volume first new already needed short faulted =>
    (132, [b1 (statusCode st), 0, b1 volume, b1 new, b1 already, b1 needed, 0, 0] ++ toBe 4 first ++ toBe 4 short
      ++ toBe 8 (faultedMask first faulted))

/-! ### Replies on the management link (R187) -/

/-- A field that may be absent; how absence is written is not listed. -/
def fieldOr (x : Option Nat) : Nat := x.getD (named "ABSENT")

/-- A mark, clear 0 and set 1, as R192 codes the next-written mark (DEDUCED, log entry 31). -/
def bit (b : Bool) : Nat := if b then 1 else 0

/-- A list: its count, then its items. -/
def listOf {α : Type} (item : α → List Nat) (l : List α) : List Nat := l.length :: (l.map item).flatten

/-- Schedule settings as fields. -/
def Settings.words (x : Settings) : List Nat := [x.cycle, x.point, x.window, x.length, x.reload]

/-- Grace states as fields: the state, and the deadline in GRACE. -/
def graceWords (g : GraceState) : List Nat :=
  [graceCode g, match g with | .grace d => d | _ => named "ABSENT"]

/-- An owner record and its figures as fields (R12); the origin WRITTEN has the code of R192 (DEDUCED, log entry 31). -/
def OwnerView.words (v : OwnerView) : List Nat :=
  let r := v.record
  [r.owner, classCode r.cls, r.hard, r.soft, r.held, r.reserved, r.pinned, r.share, r.overdraft, r.overTags.toNat]
    ++ graceWords r.grace
    ++ [match r.origin with | .row i => i | .written => 255, v.graceMinutes, v.pinCharge, v.charge, v.usage,
      v.limit, v.limitWithOverdraft]

/-- A snapshot as fields (R60), its kind and state with the codes of R192 (DEDUCED, log entry 31); OPENING has none there. A holder
in its list of holds is one word: the bare id of RESTORE n, or the number of the name DUPLICATION, which may equal an id (DESIGN
CHOICE, log entry 60). -/
def snapWords (x : Snapshot) : List Nat :=
  [x.epoch, snapKindCode x.kind] ++ (match x.label with | some l => Config.labelWords l | none => [named "ABSENT"])
    ++ [fieldOr x.creation, match x.state with | .opening => named "OPENING" | st => snapStateCode st]
    ++ listOf (fun h => [match h with | .restore id => id | .duplication => named "DUPLICATION"]) x.holds ++ [x.changeCount]

/-- The pass states of the roster. -/
def passName : PassState → String
  | .waiting => "WAITING"
  | .opening => "OPENING"
  | .sending => "SENDING"
  | .draining => "DRAINING"
  | .closing => "CLOSING"
  | .done => "DONE"
  | .abandoned => "ABANDONED"
  | .skipped => "SKIPPED"

/-- The schedule states. -/
def scheduleName : ScheduleState → String
  | .stopped => "STOPPED"
  | .running => "RUNNING"
  | .stopping => "STOPPING"

/-- A roster entry as fields (R137); epoch 0 stands for no target (R129). -/
def rosterWords (e : RosterEntry) : List Nat :=
  [e.volume, e.base, e.keep, e.target.getD 0, bit e.deferred, named (passName e.pass)]

/-- Run modes, with the codes of R192 in a reply too (DEDUCED, log entry 31). -/
def modeCode : RunMode → Nat
  | .repeating => 0
  | .single => 1

/-- The states of a restore. -/
def restoreName : RestoreState → String
  | .queued => "QUEUED"
  | .planning => "PLANNING"
  | .fencing => "FENCING"
  | .copying => "COPYING"
  | .stalled => "STALLED"
  | .ending => "ENDING"
  | .done => "DONE"
  | .failed => "FAILED"
  | .cancelled => "CANCELLED"

/-- The outcome and reason codes of a restore (R190); DONE and CANCELLED, which have no reason, carry 0 as theirs (DESIGN CHOICE, log
entry 61). -/
def outcomeCodes : RestoreOutcome → Nat × Nat
  | .done => (12, 0)
  | .failed r => (13, statusCode r)
  | .cancelled => (8, 0)

/-- A restore as fields, in the order of R102. A cursor past block 4,294,967,295 stands as 4,294,967,296, whose four bytes are 0
(DESIGN CHOICE, log entry 55). The outcome is two words, the outcome and its reason, the reason 0 for DONE and CANCELLED, and both
ABSENT where there is no outcome (DESIGN CHOICE, log entry 61). -/
def RestoreView.words (v : RestoreView) : List Nat :=
  let r := v.record
  [r.id, r.volume, r.epoch, r.first, r.count]
    ++ (match r.mode with
      | .inPlace => [named "IN_PLACE", named "ABSENT", named "ABSENT"]
      | .side t b => [named "SIDE", t, b])
    ++ [r.owner, r.tags.toNat, named (match r.urgency with | .urgent => "URGENT" | .ordinary => "ORDINARY"),
        named (restoreName r.state)]
    ++ (match r.plan with | some p => [p.w, p.v, p.k] | none => List.replicate 3 (named "ABSENT"))
    ++ [fieldOr r.ticket, fieldOr r.cursor]
    ++ listOf (fun p : Nat × BlockStep => [p.1, named (match p.2 with
        | .preserving _ => "PRESERVING" | .writing => "WRITING" | .freeing => "FREEING")]) r.inProgress
    ++ [r.written, r.freed, r.preserved, r.skipped, fieldOr r.stall]
    ++ (match r.outcome with | some o => [(outcomeCodes o).1, (outcomeCodes o).2] | none => [named "ABSENT", named "ABSENT"])
    ++ [fieldOr v.position, fieldOr v.blocksInProgress]

/-- The phases of a pass. -/
def phaseName : PassPhase → String
  | .opening => "OPENING"
  | .sending => "SENDING"
  | .draining => "DRAINING"
  | .closing => "CLOSING"
  | .abandoning => "ABANDONING"

/-- The current pass as fields, in the order of R139. The in-hand consignment stands as one field, its consignment number alone, or
ABSENT where there is none (DESIGN CHOICE, log entry 58). -/
def Pass.words (p : Pass) : List Nat :=
  [p.number, p.volume, p.base, p.target, named (phaseName p.phase), p.cursor.getD (named "END"), p.nextConsignment,
   fieldOr (p.inHand.map (·.number)), p.recordsSent, p.recordsCommitted, p.answerAttempt, fieldOr p.answerDeadline,
   fieldOr (p.reason.map statusCode)]

/-- A consignment of the window as fields (R158). -/
def consignmentWords (c : Consignment) : List Nat :=
  [c.number, c.attempt, c.blocks.length] ++ match c.state with
    | .sent d => [named "SENT", d]
    | .due => [named "DUE", named "ABSENT"]
    | .rereading _ => [named "REREADING", named "ABSENT"]

/-- READ DUPLICATION's fields (R158). With no pass its fields are ABSENT, but the base and the target the empty epoch, 0 (log entry
30), and the records in hand and the reads at the mover the number 0 (DESIGN CHOICE, log entry 58). An outcome in the
probe history is 1 for an answered probe and 0 for an unanswered one (DESIGN CHOICE, log entry 62). -/
def DuplicationView.words (v : DuplicationView) : List Nat :=
  (match v.pass with
    | some p => Pass.words p
    | none => List.replicate 2 (named "ABSENT") ++ [0, 0] ++ List.replicate 9 (named "ABSENT"))
    ++ [v.recordsInHand, v.readsAtMover] ++ listOf consignmentWords v.window
    ++ [v.credits, v.reload, linkCode v.link, v.faultCounter, v.faultThreshold, v.silence]
    ++ listOf (fun b => [bit b]) v.probeHistory
    ++ [fieldOr (v.lastReject.map (·.toNat)), v.passCounter, bit v.runOpen]

/-- The names of the marks (R160, R172). -/
def markName : FrameMark → String
  | .none => "NONE"
  | .check => "CHECK"
  | .length => "LENGTH"
  | .kind => "KIND"

/-- The names of the mover's modes (R97). -/
def modeName : MoverMode → String
  | .openMode => "OPEN"
  | .draining => "DRAINING"
  | .drained => "DRAINED"

/-- READ STATUS's fields (R101, R185). The figures of the eight server links stand link after link with no count before them:
their number is fixed (DESIGN CHOICE, log entry 52). -/
def StatusView.words (v : StatusView) : List Nat :=
  [serviceCode v.service, v.minute, v.seconds, v.noticeQueue, v.noticeCounter.toNat, named (markName v.mark),
   v.requestQueue, v.replyList, v.freeSlots, v.quarantined, v.poolSize, v.lowMark, v.indexFree, v.openClaims,
   v.restoreQueue, v.activeRestores, (v.schedule.map fun x => named (scheduleName x)).getD 0, v.counter, v.windowStart,
   v.windowEnd, linkCode v.link, v.faultCounter, named (modeName v.mode), v.preservationTags, v.restoreTags,
   v.duplicationTags, v.serviceTags, v.liveReads]
    ++ (v.links.map fun l =>
      [l.queueLength, bit l.headHeld, l.copying, l.openClaims, named (markName l.mark), l.waiting]).flatten
    ++ [fieldOr v.jobBlocks, fieldOr v.jobExtent]

/-- The fields of a management reply, each a four-byte number, a list as its count and its items (R187). A field that a
success may lack keeps its place, so that the replies of a kind without lists have one length (log entry 30). -/
def ReplyData.words : ReplyData → List Nat
  | .empty => []
  | .grace g => [graceCode g]
  | .owner v => v.words
  | .usage before after g => [before, after, graceCode g]
  | .number n => [n]
  | .snapshots v => [v.link.val, v.nextEpoch, bit v.merging, v.retirePending] ++ listOf snapWords v.listed
  | .lookup (.slot n i o st) =>
    [named "SLOT", n, i, named (match st with | .copying => "COPYING" | .settled => "SETTLED"), o]
  | .lookup (.fresh i) => [named "FRESH", named "ABSENT", i, named "ABSENT", named "ABSENT"]
  | .lookup .live => [named "LIVE", named "ABSENT", 0, named "ABSENT", named "ABSENT"]
  | .pool size low rescue free => [size, low, rescue, free]
  | .moved slots free => [slots, free]
  | .restore v => v.words
  | .settings x => x.words
  | .scheduleState x => [named (scheduleName x)]
  | .schedule v =>
    v.live.words ++ v.next.words ++ [bit v.nextWritten, named (scheduleName v.state), modeCode v.mode, v.counter,
      bit v.windowOpen] ++ listOf rosterWords v.roster
  | .duplication v => v.words
  | .stateLeft x => [serviceCode x]
  | .timers t => [t.claimLifetime, t.storeTimeout, t.commitTimeout, t.silenceTime, t.stallLimit, t.faultThreshold]
  | .status v => v.words

/-- The fields the success of a request kind carries, its lists empty: a refusal has the same length, all zero (R187; log
entry 30). -/
def successFields (code : Nat) : Nat :=
  if code = 16 then 1 else if code = 17 then 19 else if code = 19 then 3 else if code = 21 then 1
  else if code = 24 then 1 else if code = 26 then 5 else if code = 27 then 5 else if code = 28 then 4
  else if code = 29 then 2 else if code = 30 then 1 else if code = 34 then 27 else if code = 35 then 5 else if code = 36 then 1
  else if code = 37 then 1 else if code = 38 then 1 else if code = 40 then 1 else if code = 41 then 1
  else if code = 42 then 16 else if code = 43 then 26 else if code = 44 then 1 else if code = 48 then 1 else if code = 49 then 6
  else if code = 50 then 1 else if code = 51 then 78 else 0

/-- The kind and body of a management reply. -/
def MgmtReply.body (r : MgmtReply) : Nat × List Byte :=
  let words := r.data.words
  let words := if words.isEmpty then List.replicate (successFields r.code) 0 else words
  (r.code + 128, [b1 (statusCode r.status), r.flags] ++ (words.map (toBe 4)).flatten)

/-! ### Notices (R190) -/

/-- A subject field that holds one number. -/
def subject (n : Nat) : List Byte := padTo 12 (toBe 4 n)

/-- The notice code and its three subject fields. PASS_ENDED holds its outcome and reason as RESTORE_ENDED does, in bytes 0 and
1 of the second (DEDUCED, log entry 51). -/
def NoticeBody.fields : NoticeBody → Nat × List (List Byte)
  | .graceStarted o u d => (1, [subject o, subject u, subject d])
  | .graceExpired o u s => (2, [subject o, subject u, subject s])
  | .graceEnded o u s => (3, [subject o, subject u, subject s])
  | .claimLapsed o t g => (4, [subject o, subject t, subject g])
  | .poolLow f l => (5, [subject f, subject l])
  | .poolEmpty q s => (6, [subject q, subject s])
  | .rescueRetire v e f => (7, [subject (v.getD 255), subject e, subject f])
  | .indexLow f v => (8, [subject f, subject v])
  | .snapshotLive v e k => (9, [subject v, subject e, subject (snapKindCode k)])
  | .snapshotGone v e n => (10, [subject v, subject e, subject n])
  | .snapshotSkipped v r e => (11, [subject v, subject (statusCode r), subject e])
  | .noBase v t => (12, [subject v, subject t])
  | .restoreEnded id o w f p =>
    (13, [subject id, padTo 12 [b1 (outcomeCodes o).1, b1 (outcomeCodes o).2], toBe 4 w ++ toBe 4 f ++ toBe 4 p])
  | .passEnded v reason n =>
    (14, [subject v, padTo 12 (match reason with | none => [b1 12, 0] | some r => [b1 14, b1 (statusCode r)]), subject n])
  | .runEnded d a s => (15, [subject d, subject a, subject s])
  | .linkChanged l e n => (16, [subject (linkCode l), subject (linkCode e), subject n])
  | .storeFault area address op phase client cause =>
    (17, [padTo 12 [b1 (areaCode area), b1 (areaVolume area)], subject address,
          padTo 12 ([b1 (opCode op), b1 (phaseCode op phase), b1 (clientCodes client).1] ++ toBe 2 (clientCodes client).2
            ++ [b1 (faultCode cause)])])
  | .serviceChanged l e c => (18, [subject (serviceCode l), subject (serviceCode e), subject (causeCode c)])
  | .saveEnded o b x => (19, [subject (statusCode o), subject b, subject x])
  | .loadEnded o c b => (20, [subject (statusCode o), subject (checkCode c), subject b])

/-- The body of a NOTICE frame: 48 bytes. -/
def Notice.bytes (n : Notice) : List Byte :=
  padTo 48 ([b1 n.body.fields.1, 0, 0, 0] ++ toBe 4 n.minute ++ n.body.fields.2.flatten)

/-! ### Store requests and offsite frames (R189) -/

/-- The kind and body of a store request. -/
def StoreRequest.body (r : StoreRequest) : Nat × List Byte :=
  (match r.op with | .read => 64 | .write => 65 | .free => 66,
   [b1 r.tag.val, b1 (areaCode r.area), b1 (areaVolume r.area), b1 r.length] ++ toBe 4 r.address ++ r.content)

/-- One record of a consignment. -/
def recordBytes (r : Nat × Option (List Byte)) : List Byte :=
  match r.2 with
  | some c => toBe 4 r.1 ++ [1, 0, 0, 0] ++ c
  | none => toBe 4 r.1 ++ [2, 0, 0, 0]

/-- The kind and body of an offsite frame. -/
def OffsiteFrame.body : OffsiteFrame → Nat × List Byte
  | .passOpen p v b t => (80, toBe 4 p ++ [b1 v, 0, 0, 0] ++ toBe 4 b ++ toBe 4 t)
  | .consignment p n a records =>
    (81, toBe 4 p ++ toBe 4 n ++ [b1 a, b1 records.length] ++ List.replicate 6 0 ++ (records.map recordBytes).flatten)
  | .passClose p n => (82, toBe 4 p ++ toBe 4 n)
  | .passAbandon p => (83, toBe 4 p)
  | .probe => (84, [])

/-- A frame the part has sent, as the bytes on its link (R186). -/
def Sent.bytes : Sent → List Byte
  | .server _ seq r => frameBytes (b1 r.body.1) seq r.body.2
  | .mgmtReply r => frameBytes (b1 r.body.1) r.seq r.body.2
  | .notice n => frameBytes 96 n.seq n.bytes
  | .store seq r => frameBytes (b1 r.body.1) seq r.body.2
  | .offsite seq f => frameBytes (b1 f.body.1) seq f.body.2

end Sys2Proof.Machine
end

