-- ==== Sys2Proof/Machine/PartCommands.lean ====
section
/-! DEFINITION. The commands that reach the whole part: power-on, the reset line, the seconds tick, and the management link's frames
and sender (R172 to R175, R183). -/

namespace Sys2Proof.Machine

/-- The part right after power-on or the reset line: work in flight is lost without replies or notices, and the first PROBE
goes (R157, R175). What the model keeps beside the part stays: the frames already sent and the queue of commands. -/
def State.powerUp (s : State) : State :=
  { State.reset with sent := s.sent ++ State.reset.sent, choices := s.choices, pending := s.pending }

/-- POWER_ON (R175). -/
def execPowerOn (s : State) : Host.Outcome State Fault Refusal := .next s.powerUp

/-- RESET_LINE (R175). -/
def execResetLine (s : State) : Host.Outcome State Fault Refusal := .next s.powerUp

/-- SECONDS_TICK (R183). -/
def execSecondsTick (s : State) : Host.Outcome State Fault Refusal := .next s.secondsTick

/-- MGMT_FRAME_ARRIVAL: what the receiver of the management link finds in the bytes, in order, after those of a frame already
begun; what it finds begun and not ended it keeps (R172, R186). -/
def execMgmtFrameArrival (bytes : List Byte) (s : State) : Host.Outcome State Fault Refusal :=
  let stream := s.mgmt.begun ++ bytes
  .next ((receive stream).foldl (fun s r => s.event (receiveMgmt r)) (s.onMgmt fun m => { m with begun := begunFrame stream }))

/-- MGMT_SENDER_FREE (R173, R174). -/
def execMgmtSenderFree (s : State) : Host.Outcome State Fault Refusal := .next (s.event takeSender)

end Sys2Proof.Machine
end

