-- ==== Sys2Proof/Machine/MgmtCommands.lean ====
section
/-! DEFINITION. The requests of the management link, each the arrival of a good frame with the fields the command carries (R172, R173). -/

namespace Sys2Proof.Machine

/-- A management request comes in as a good frame (R172, R173). -/
def State.request (seq : U16) (r : MgmtRequest) (s : State) : State := s.event (arriveMgmt seq r)

/-- WRITE_OWNER (R10). -/
def execWriteOwner (seq : U16) (r : WriteOwnerReq) (s : State) : Host.Outcome State Fault Refusal :=
  .next (s.request seq (.writeOwner r))

/-- READ_OWNER_EXACT (R12). -/
def execReadOwnerExact (seq : U16) (owner : U32) (s : State) : Host.Outcome State Fault Refusal :=
  .next (s.request seq (.readOwner (some .exact) owner))

/-- READ_OWNER_NEXT (R13). -/
def execReadOwnerNext (seq : U16) (owner : U32) (s : State) : Host.Outcome State Fault Refusal :=
  .next (s.request seq (.readOwner (some .next) owner))

/-- REMOVE_OWNER (R14). -/
def execRemoveOwner (seq : U16) (owner : U32) (s : State) : Host.Outcome State Fault Refusal :=
  .next (s.request seq (.removeOwner owner))

/-- SET_USAGE (R15). -/
def execSetUsage (seq : U16) (owner held : U32) (s : State) : Host.Outcome State Fault Refusal :=
  .next (s.request seq (.setUsage owner held))

/-- WRITE_POLICY (R7). -/
def execWritePolicy (seq : U16) (r : WritePolicyReq) (s : State) : Host.Outcome State Fault Refusal :=
  .next (s.request seq (.writePolicy r))

/-- ERASE_POLICY (R8). -/
def execErasePolicy (seq : U16) (index : U32) (s : State) : Host.Outcome State Fault Refusal :=
  .next (s.request seq (.erasePolicy index))

/-- DEFINE_VOLUME (R43). -/
def execDefineVolume (seq : U16) (volume link : U32) (s : State) : Host.Outcome State Fault Refusal :=
  .next (s.request seq (.defineVolume volume link))

/-- REMOVE_VOLUME (R44). -/
def execRemoveVolume (seq : U16) (volume : U32) (s : State) : Host.Outcome State Fault Refusal :=
  .next (s.request seq (.removeVolume volume))

/-- TAKE_SNAPSHOT (R52). -/
def execTakeSnapshot (seq : U16) (volume : U32) (label : Option (List Byte)) (s : State) :
    Host.Outcome State Fault Refusal :=
  .next (s.request seq (.takeSnapshot volume label))

/-- RETIRE_SNAPSHOT (R55). -/
def execRetireSnapshot (seq : U16) (volume epoch : U32) (s : State) : Host.Outcome State Fault Refusal :=
  .next (s.request seq (.retireSnapshot volume epoch))

/-- LIST_SNAPSHOTS (R60). -/
def execListSnapshots (seq : U16) (volume : U32) (s : State) : Host.Outcome State Fault Refusal :=
  .next (s.request seq (.listSnapshots volume))

/-- LOOKUP_BLOCK (R51). -/
def execLookupBlock (seq : U16) (volume block epoch : U32) (s : State) : Host.Outcome State Fault Refusal :=
  .next (s.request seq (.lookupBlock volume block epoch))

/-- SET_POOL (R67). -/
def execSetPool (seq : U16) (r : SetPoolReq) (s : State) : Host.Outcome State Fault Refusal :=
  .next (s.request seq (.setPool r))

/-- CLEAR_QUARANTINE (R71). -/
def execClearQuarantine (seq : U16) (s : State) : Host.Outcome State Fault Refusal :=
  .next (s.request seq .clearQuarantine)

/-- REQUEST_RESTORE (R103). -/
def execRequestRestore (seq : U16) (r : RestoreReq) (s : State) : Host.Outcome State Fault Refusal :=
  .next (s.request seq (.requestRestore r))

/-- CANCEL_RESTORE (R117). -/
def execCancelRestore (seq : U16) (id : U32) (s : State) : Host.Outcome State Fault Refusal :=
  .next (s.request seq (.cancelRestore id))

/-- READ_RESTORE (R118). -/
def execReadRestore (seq : U16) (id : U32) (s : State) : Host.Outcome State Fault Refusal :=
  .next (s.request seq (.readRestore id))

/-- WRITE_SCHEDULE (R123). -/
def execWriteSchedule (seq : U16) (r : ScheduleReq) (s : State) : Host.Outcome State Fault Refusal :=
  .next (s.request seq (.writeSchedule r))

/-- START_SCHEDULE (R126). -/
def execStartSchedule (seq : U16) (mode : Option RunMode) (s : State) : Host.Outcome State Fault Refusal :=
  .next (s.request seq (.startSchedule mode))

/-- STOP_SCHEDULE (R127). -/
def execStopSchedule (seq : U16) (s : State) : Host.Outcome State Fault Refusal :=
  .next (s.request seq .stopSchedule)

/-- CLEAR_CYCLE (R128). -/
def execClearCycle (seq : U16) (s : State) : Host.Outcome State Fault Refusal :=
  .next (s.request seq .clearCycle)

/-- WRITE_ROSTER (R130). -/
def execWriteRoster (seq : U16) (volume keep : U32) (s : State) : Host.Outcome State Fault Refusal :=
  .next (s.request seq (.writeRoster volume keep))

/-- ERASE_ROSTER (R130). -/
def execEraseRoster (seq : U16) (volume : U32) (s : State) : Host.Outcome State Fault Refusal :=
  .next (s.request seq (.eraseRoster volume))

/-- SET_BASE (R131). -/
def execSetBase (seq : U16) (volume epoch : U32) (s : State) : Host.Outcome State Fault Refusal :=
  .next (s.request seq (.setBase volume epoch))

/-- READ_SCHEDULE (R137). -/
def execReadSchedule (seq : U16) (s : State) : Host.Outcome State Fault Refusal :=
  .next (s.request seq .readSchedule)

/-- READ_DUPLICATION (R158). -/
def execReadDuplication (seq : U16) (s : State) : Host.Outcome State Fault Refusal :=
  .next (s.request seq .readDuplication)

/-- OPEN_SERVICE (R176). -/
def execOpenService (seq : U16) (s : State) : Host.Outcome State Fault Refusal :=
  .next (s.request seq .openService)

/-- PAUSE_SERVICE (R177). -/
def execPauseService (seq : U16) (s : State) : Host.Outcome State Fault Refusal :=
  .next (s.request seq .pauseService)

/-- SAVE_TABLES (R178). -/
def execSaveTables (seq : U16) (s : State) : Host.Outcome State Fault Refusal :=
  .next (s.request seq .saveTables)

/-- LOAD_TABLES (R180). -/
def execLoadTables (seq : U16) (s : State) : Host.Outcome State Fault Refusal :=
  .next (s.request seq .loadTables)

/-- RESTART (R182). -/
def execRestart (seq : U16) (s : State) : Host.Outcome State Fault Refusal :=
  .next (s.request seq .restart)

/-- SET_TIMERS (R184). -/
def execSetTimers (seq : U16) (r : TimersReq) (s : State) : Host.Outcome State Fault Refusal :=
  .next (s.request seq (.setTimers r))

/-- SET_CLOCK (R183). -/
def execSetClock (seq : U16) (minute : U32) (s : State) : Host.Outcome State Fault Refusal :=
  .next (s.request seq (.setClock minute))

/-- READ_STATUS (R185). -/
def execReadStatus (seq : U16) (s : State) : Host.Outcome State Fault Refusal :=
  .next (s.request seq .readStatus)

end Sys2Proof.Machine
end

