-- ==== Sys2Proof/Machine/ServerCommands.lean ====
section
/-! DEFINITION. The commands of the server links (R161, R162). -/

namespace Sys2Proof.Machine

/-- A server-link request comes in as a good frame (R161, R162). -/
def State.serverRequest (l : Link) (seq : U16) (r : ServerRequest) (s : State) : State := s.event (arriveServer l seq r)

/-- SERVER_FRAME_ARRIVAL: what the receiver of the link finds in the bytes, in order, after those of a frame already begun;
what it finds begun and not ended it keeps (R161, R186). -/
def execServerFrameArrival (link : Link) (bytes : List Byte) (s : State) : Host.Outcome State Fault Refusal :=
  let stream := (s.intake link).begun ++ bytes
  .next ((receive stream).foldl (fun s r => s.event (receiveServer link r))
    (s.onLink link fun i => { i with begun := begunFrame stream }))

/-- CLAIM (R30). -/
def execClaim (link : Link) (seq : U16) (r : ClaimReq) (s : State) : Host.Outcome State Fault Refusal :=
  .next (s.serverRequest link seq (.claim r))

/-- SETTLE (R33). -/
def execSettle (link : Link) (seq : U16) (r : SettleReq) (s : State) : Host.Outcome State Fault Refusal :=
  .next (s.serverRequest link seq (.settle r))

/-- RELEASE (R35). -/
def execRelease (link : Link) (seq : U16) (r : ReleaseReq) (s : State) : Host.Outcome State Fault Refusal :=
  .next (s.serverRequest link seq (.release r))

/-- PRESERVE (R73). -/
def execPreserve (link : Link) (seq : U16) (r : PreserveReq) (s : State) : Host.Outcome State Fault Refusal :=
  .next (s.serverRequest link seq (.preserve r))

end Sys2Proof.Machine
end

