-- ==== Sys2Proof/Machine/StoreCommands.lean ====
section
/-! DEFINITION. The commands of the store channel (R89, R91). -/

namespace Sys2Proof.Machine

/-- STORE_DONE (R89). -/
def execStoreDone (tag : Byte) (seq : U16) (s : State) : Host.Outcome State Fault Refusal :=
  .next (s.event (takeStoreReply tag seq .done))

/-- STORE_DATA (R89). -/
def execStoreData (tag : Byte) (seq : U16) (content : List Byte) (s : State) : Host.Outcome State Fault Refusal :=
  .next (s.event (takeStoreReply tag seq (.data content)))

/-- STORE_FAULT (R89). -/
def execStoreFault (tag : Byte) (seq : U16) (reason : ArrayReason) (s : State) : Host.Outcome State Fault Refusal :=
  .next (s.event (takeStoreReply tag seq (.fault (.array reason))))

/-- What the mover makes of a frame on the store channel: a good reply is taken, anything else is discarded and changes
nothing (R89, R186, R189). -/
def receiveStore (r : Received) (s : State) : State :=
  match r with
  | .frame kind seq body =>
    match storeCommandOf kind seq body with
    | some (.storeDone tag n) => s.event (takeStoreReply tag n .done)
    | some (.storeData tag n content) => s.event (takeStoreReply tag n (.data content))
    | some (.storeFault tag n reason) => s.event (takeStoreReply tag n (.fault (.array reason)))
    | _ => s
  | _ => s

/-- STORE_FRAME_DISCARD: the bytes that arrive on the store channel, after those of a frame already begun (R89, R186). -/
def execStoreFrameDiscard (bytes : List Byte) (s : State) : Host.Outcome State Fault Refusal :=
  let stream := s.mover.begun ++ bytes
  .next ((receive stream).foldl (fun s r => receiveStore r s) (s.onMover fun m => { m with begun := begunFrame stream }))

/-- STORE_TIMEOUT (R91). -/
def execStoreTimeout (tag : Fin 32) (s : State) : Host.Outcome State Fault Refusal := .next (s.event (takeStoreTimeout tag))

end Sys2Proof.Machine
end

