-- ==== Sys2Proof/Machine/OffsiteCommands.lean ====
section
/-! DEFINITION. The commands of the offsite link: the partner's frames, the deadlines, the silence and probe timers, and the pacer (R141,
R146, R148 to R151, R156, R157). -/

namespace Sys2Proof.Machine

/-- ACCEPT (R141). -/
def execAccept (pass : U32) (s : State) : Host.Outcome State Fault Refusal := .next (s.event (takeAccept pass.toNat))

/-- COMMIT (R148). -/
def execCommit (pass consignment : U32) (s : State) : Host.Outcome State Fault Refusal :=
  .next (s.event (takeCommit pass.toNat consignment.toNat))

/-- REJECT (R149). -/
def execReject (pass consignment : U32) (reason : Byte) (s : State) : Host.Outcome State Fault Refusal :=
  .next (s.event (takeReject pass.toNat consignment.toNat reason))

/-- SEALED (R151). -/
def execSealed (pass : U32) (s : State) : Host.Outcome State Fault Refusal := .next (s.event (takeSealedFrame pass.toNat))

/-- PROBE_ANSWER (R157). -/
def execProbeAnswer (seq : U16) (s : State) : Host.Outcome State Fault Refusal := .next (s.event (takeProbeAnswer seq))

/-- What the engine makes of a frame on the offsite link: a good frame is taken, anything else is discarded and changes
nothing (R156, R186, R189). -/
def receiveOffsite (r : Received) (s : State) : State :=
  match r with
  | .frame kind seq body =>
    match offsiteCommandOf kind seq body with
    | some (.accept n) => s.event (takeAccept n.toNat)
    | some (.commit n k) => s.event (takeCommit n.toNat k.toNat)
    | some (.reject n k reason) => s.event (takeReject n.toNat k.toNat reason)
    | some (.sealed n) => s.event (takeSealedFrame n.toNat)
    | some (.probeAnswer n) => s.event (takeProbeAnswer n)
    | _ => s
  | _ => s

/-- OFFSITE_FRAME_DISCARD: the bytes that arrive on the offsite link, after those of a frame already begun (R156, R186). -/
def execOffsiteFrameDiscard (bytes : List Byte) (s : State) : Host.Outcome State Fault Refusal :=
  let stream := s.offsite.begun ++ bytes
  .next ((receive stream).foldl (fun s r => receiveOffsite r s) (s.onOffsite fun o => { o with begun := begunFrame stream }))

/-- CONSIGNMENT_DEADLINE_EXPIRY (R149). -/
def execConsignmentDeadlineExpiry (consignment : U32) (s : State) : Host.Outcome State Fault Refusal :=
  .next (s.event (takeConsignmentExpiry consignment.toNat))

/-- ANSWER_DEADLINE_EXPIRY (R141). -/
def execAnswerDeadlineExpiry (s : State) : Host.Outcome State Fault Refusal := .next (s.event takeAnswerExpiry)

/-- SILENCE_TIMEOUT (R156). -/
def execSilenceTimeout (s : State) : Host.Outcome State Fault Refusal := .next (s.event takeSilence)

/-- PROBE_TIMER (R157). -/
def execProbeTimer (s : State) : Host.Outcome State Fault Refusal := .next s.takeProbeTimer

/-- PACER_OVERFLOW (R146). -/
def execPacerOverflow (s : State) : Host.Outcome State Fault Refusal := .next (s.event takePacer)

end Sys2Proof.Machine
end

