-- ==== Sys2Proof/Machine/EventCommands.lean ====
section
/-! DEFINITION. The events of the other timers and of the catalogue: rescue, stalls, the cycle, merge steps and a snapshot's going LIVE
(R53, R57, R70, R114, R125). -/

namespace Sys2Proof.Machine

/-- RESCUE_EXPIRY (R70). -/
def execRescueExpiry (s : State) : Host.Outcome State Fault Refusal := .next s.takeRescue

/-- A stall whose remaining minutes have run out ends its restore with the reason of its last refusal (R114). -/
def takeStallExpiry (id : Nat) (w : Work) : Work :=
  match w.st.active? id with
  | some r =>
    match r.state, r.stall, r.lastRefusal with
    | .stalled, some 0, some reason => enterEnding id (.failed reason) w
    | _, _, _ => w
  | none => w

/-- STALL_EXPIRY (R114). -/
def execStallExpiry (id : U16) (s : State) : Host.Outcome State Fault Refusal := .next (s.event (takeStallExpiry id.toNat))

/-- CYCLE_ADVANCE (R125). -/
def execCycleAdvance (s : State) : Host.Outcome State Fault Refusal := .next (s.event takeCycleAdvance)

/-- MERGE_STEP (R57). -/
def execMergeStep (volume : Fin 48) (s : State) : Host.Outcome State Fault Refusal := .next (s.event (takeMergeStep volume.val))

/-- GO_LIVE: the catalogue tests a volume for quiet (R53). -/
def execGoLive (volume : Fin 48) (s : State) : Host.Outcome State Fault Refusal := .next (s.event (Work.push [.quiet volume.val]))

end Sys2Proof.Machine
end

