-- ==== Sys2Proof/Machine/Dispatch.lean ====
section
/-! DEFINITION. One arm per command: the command's effect on everything but the queue. -/

namespace Sys2Proof.Machine

/-- The effect of a command. -/
def exec (i : Instr) (s : State) : Host.Outcome State Fault Refusal :=
  match i with
  | .powerOn => Sys2Proof.Machine.execPowerOn s
  | .resetLine => Sys2Proof.Machine.execResetLine s
  | .secondsTick => Sys2Proof.Machine.execSecondsTick s
  | .mgmtFrameArrival bytes => Sys2Proof.Machine.execMgmtFrameArrival bytes s
  | .mgmtSenderFree => Sys2Proof.Machine.execMgmtSenderFree s
  | .writeOwner seq r => Sys2Proof.Machine.execWriteOwner seq r s
  | .readOwnerExact seq owner => Sys2Proof.Machine.execReadOwnerExact seq owner s
  | .readOwnerNext seq owner => Sys2Proof.Machine.execReadOwnerNext seq owner s
  | .removeOwner seq owner => Sys2Proof.Machine.execRemoveOwner seq owner s
  | .setUsage seq owner held => Sys2Proof.Machine.execSetUsage seq owner held s
  | .writePolicy seq r => Sys2Proof.Machine.execWritePolicy seq r s
  | .erasePolicy seq index => Sys2Proof.Machine.execErasePolicy seq index s
  | .defineVolume seq volume link => Sys2Proof.Machine.execDefineVolume seq volume link s
  | .removeVolume seq volume => Sys2Proof.Machine.execRemoveVolume seq volume s
  | .takeSnapshot seq volume label => Sys2Proof.Machine.execTakeSnapshot seq volume label s
  | .retireSnapshot seq volume epoch => Sys2Proof.Machine.execRetireSnapshot seq volume epoch s
  | .listSnapshots seq volume => Sys2Proof.Machine.execListSnapshots seq volume s
  | .lookupBlock seq volume block epoch => Sys2Proof.Machine.execLookupBlock seq volume block epoch s
  | .setPool seq r => Sys2Proof.Machine.execSetPool seq r s
  | .clearQuarantine seq => Sys2Proof.Machine.execClearQuarantine seq s
  | .requestRestore seq r => Sys2Proof.Machine.execRequestRestore seq r s
  | .cancelRestore seq id => Sys2Proof.Machine.execCancelRestore seq id s
  | .readRestore seq id => Sys2Proof.Machine.execReadRestore seq id s
  | .writeSchedule seq r => Sys2Proof.Machine.execWriteSchedule seq r s
  | .startSchedule seq mode => Sys2Proof.Machine.execStartSchedule seq mode s
  | .stopSchedule seq => Sys2Proof.Machine.execStopSchedule seq s
  | .clearCycle seq => Sys2Proof.Machine.execClearCycle seq s
  | .writeRoster seq volume keep => Sys2Proof.Machine.execWriteRoster seq volume keep s
  | .eraseRoster seq volume => Sys2Proof.Machine.execEraseRoster seq volume s
  | .setBase seq volume epoch => Sys2Proof.Machine.execSetBase seq volume epoch s
  | .readSchedule seq => Sys2Proof.Machine.execReadSchedule seq s
  | .readDuplication seq => Sys2Proof.Machine.execReadDuplication seq s
  | .openService seq => Sys2Proof.Machine.execOpenService seq s
  | .pauseService seq => Sys2Proof.Machine.execPauseService seq s
  | .saveTables seq => Sys2Proof.Machine.execSaveTables seq s
  | .loadTables seq => Sys2Proof.Machine.execLoadTables seq s
  | .restart seq => Sys2Proof.Machine.execRestart seq s
  | .setTimers seq r => Sys2Proof.Machine.execSetTimers seq r s
  | .setClock seq minute => Sys2Proof.Machine.execSetClock seq minute s
  | .readStatus seq => Sys2Proof.Machine.execReadStatus seq s
  | .serverFrameArrival link bytes => Sys2Proof.Machine.execServerFrameArrival link bytes s
  | .claim link seq r => Sys2Proof.Machine.execClaim link seq r s
  | .settle link seq r => Sys2Proof.Machine.execSettle link seq r s
  | .release link seq r => Sys2Proof.Machine.execRelease link seq r s
  | .preserve link seq r => Sys2Proof.Machine.execPreserve link seq r s
  | .storeDone tag seq => Sys2Proof.Machine.execStoreDone tag seq s
  | .storeData tag seq content => Sys2Proof.Machine.execStoreData tag seq content s
  | .storeFault tag seq reason => Sys2Proof.Machine.execStoreFault tag seq reason s
  | .storeFrameDiscard bytes => Sys2Proof.Machine.execStoreFrameDiscard bytes s
  | .storeTimeout tag => Sys2Proof.Machine.execStoreTimeout tag s
  | .accept pass => Sys2Proof.Machine.execAccept pass s
  | .commit pass consignment => Sys2Proof.Machine.execCommit pass consignment s
  | .reject pass consignment reason => Sys2Proof.Machine.execReject pass consignment reason s
  | .sealed pass => Sys2Proof.Machine.execSealed pass s
  | .probeAnswer seq => Sys2Proof.Machine.execProbeAnswer seq s
  | .offsiteFrameDiscard bytes => Sys2Proof.Machine.execOffsiteFrameDiscard bytes s
  | .consignmentDeadlineExpiry consignment => Sys2Proof.Machine.execConsignmentDeadlineExpiry consignment s
  | .answerDeadlineExpiry => Sys2Proof.Machine.execAnswerDeadlineExpiry s
  | .silenceTimeout => Sys2Proof.Machine.execSilenceTimeout s
  | .probeTimer => Sys2Proof.Machine.execProbeTimer s
  | .pacerOverflow => Sys2Proof.Machine.execPacerOverflow s
  | .claimLapse ticket => Sys2Proof.Machine.execClaimLapse ticket s
  | .graceExpiry owner => Sys2Proof.Machine.execGraceExpiry owner s
  | .rescueExpiry => Sys2Proof.Machine.execRescueExpiry s
  | .stallExpiry id => Sys2Proof.Machine.execStallExpiry id s
  | .cycleAdvance => Sys2Proof.Machine.execCycleAdvance s
  | .mergeStep volume => Sys2Proof.Machine.execMergeStep volume s
  | .goLive volume => Sys2Proof.Machine.execGoLive volume s

end Sys2Proof.Machine
end

