-- ==== Sys2Proof/Safety.lean ====
section
/-! DEFINITION. What counts as a safe run of the part, as properties of a state that no step may break, and the words the
statements use: when a request is taken the moment it comes in, the state it finds, and what a work leaves untouched. -/

namespace Sys2Proof.Machine

/-! ### Taken at once -/

/-- The interpreter takes a management request the moment it comes in: no request waits, and the reply list has room for
its reply (R173). -/
def State.mgmtReady (s : State) : Prop := s.mgmt.queue = [] ∧ s.mgmt.replies.length < 4

/-- A link's intake takes a request the moment it comes in, unless it must hold it: no request waits (R162). -/
def State.linkReady (s : State) (l : Link) : Prop := (s.intake l).queue = []

/-- The part as a management request finds it: the good frame has cleared the link's mark (R172). -/
def State.heard (s : State) : State := s.onMgmt fun m => { m with mark := .none }

/-- The part as a server link's request finds it: the good frame has cleared the link's mark, and the intake holds no
request (R161, R162). -/
def State.heardOn (s : State) (l : Link) : State := s.onLink l fun i => { i with mark := .none, held := false }

/-! ### Bytes as they arrive -/

/-- A server link's receiver with the bytes of a frame begun (R186). -/
def State.begunOn (l : Link) (bytes : List Byte) (s : State) : State := s.onLink l fun i => { i with begun := bytes }

/-- The management link's receiver with the bytes of a frame begun (R186). -/
def State.begunMgmt (bytes : List Byte) (s : State) : State := { s with mgmt := { s.mgmt with begun := bytes } }

/-! ### What a table holds under a key -/

/-- The record a table holds under a key. -/
def tableAt {α κ : Type} [BEq κ] (key : α → κ) (l : List α) (k : κ) : Option α := l.find? fun r => key r == k

/-- A table holds `r` (or nothing) under the key `k`, and under every other key what it held before. -/
def tableWith {α κ : Type} [BEq κ] (key : α → κ) (before after : List α) (k : κ) (r : Option α) : Prop :=
  tableAt key after k = r ∧ ∀ j, j ≠ k → tableAt key after j = tableAt key before j

/-- The owner table, by owner number (R1). -/
abbrev ownersWith := tableWith OwnerRecord.owner

/-- The volume table, by volume number (R42). -/
abbrev volumesWith := tableWith Volume.volume

/-- The name of a snapshot: its volume and epoch (R46). -/
def Snapshot.name (x : Snapshot) : Nat × Nat := (x.volume, x.epoch)

/-- The snapshot records, by name (R46). -/
abbrev snapsWith := tableWith Snapshot.name

/-- The key of an index entry: its volume, block and interval (R64). -/
def Entry.key (e : Entry) : Nat × Nat × Nat := (e.volume, e.block, e.interval)

/-- The preservation index, by key (R64). -/
abbrev entriesWith := tableWith Entry.key

/-- The roster, by volume number (R129). -/
abbrev rosterWith := tableWith RosterEntry.volume

/-! ### Snapshots -/

/-- The record that TAKE SNAPSHOT makes on a volume (R52). -/
def State.openedSnapshot (s : State) (v : Nat) (label : Option (List Byte)) : Snapshot :=
  { volume := v, epoch := s.nextEpoch v, kind := .manual, label := label, creation := none, state := .opening, holds := [],
    changeCount := 0 }

/-- No waiting roster entry has the snapshot as its target (R134, R140). -/
def State.noPassAwaits (s : State) (v e : Nat) : Prop := ∀ r, s.roster? v = some r → ¬(r.pass = .waiting ∧ r.target = some e)

/-- Nothing waits for a snapshot of the volume to go LIVE: no request in the waiting list, no active restore whose fence is
on the volume, no roster entry (R53, R54, R106, R110, R140). -/
def State.nothingAwaits (s : State) (v e : Nat) : Prop :=
  (∀ x, s.volume? v = some x → x.waiting = []) ∧ (∀ r ∈ s.rest.active, r.fenceVolume ≠ v) ∧ s.noPassAwaits v e

/-- A snapshot that a merge may have as its target, and preservations as their interval: LIVE or RETIRE_PENDING (R57). -/
def Snapshot.kept (x : Snapshot) : Prop := x.state = .live ∨ x.state = .retirePending

/-- The target of a merge of epoch `x`: the highest epoch below it among the kept snapshots of the volume, or none (R57). -/
def State.targetIs (s : State) (v x : Nat) (target : Option Nat) : Prop :=
  match target with
  | none => ∀ y ∈ s.cat.snaps, y.volume = v → y.epoch < x → ¬y.kept
  | some e => (∃ y ∈ s.cat.snaps, y.volume = v ∧ y.epoch = e ∧ e < x ∧ y.kept) ∧
      ∀ y ∈ s.cat.snaps, y.volume = v → y.epoch < x → y.kept → y.epoch ≤ e

/-- The next entry of a merge's walk: of the merging snapshot's entries at or above the cursor, the one of the lowest block
(R57). -/
def State.nextOfMerge (s : State) (v : Nat) (m : Merge) (e : Entry) : Prop :=
  e ∈ s.unvisited v m ∧ ∀ x ∈ s.unvisited v m, x = e ∨ e.block < x.block

/-! ### Preservation -/

/-- The blocks of a request with no entry in the current interval, in ascending order: the new blocks (R74). -/
def State.newBlocks (s : State) (v first n : Nat) (current : Current) : List Nat :=
  ((List.range n).map fun i => first + i).filter fun b => (s.alreadyEntry v b current).isNone

/-- The already blocks of a request whose entries are COPYING, each with the slot of its entry (R74, R77). -/
def State.copyingBlocks (s : State) (v first n : Nat) (current : Current) : List (Nat × Nat) :=
  ((List.range n).map fun i => first + i).filterMap fun b =>
    match s.alreadyEntry v b current with
    | some { kind := .slot k _ .copying, .. } => some (b, k)
    | _ => none

/-! ### Work in other blocks -/

/-- No other block has work that an answer to a preservation could set going: no active restore, no current pass, no snapshot
OPENING, no waiting request, no held request (R53, R54, R78, R109, R110, R143). -/
def State.calm (s : State) : Prop :=
  s.rest.active = [] ∧ s.offsite.pass = none ∧ (∀ x ∈ s.cat.snaps, x.state ≠ .opening) ∧
  (∀ v ∈ s.cat.volumes, v.waiting = []) ∧ ∀ l : Link, (s.intake l).held = false

/-- The frame that answers a pending preservation of a server link (R81). -/
def PendingPreserve.sentReply (p : PendingPreserve) : Option Sent :=
  match p.who with
  | .link l seq => some (.server l seq p.reply)
  | .restore _ => none

/-- A reply of the array names a tag and carries the sequence number of the phase issued on it (R89). -/
def State.answersPhase (s : State) (tag : Byte) (seq : U16) (t : Fin 32) (i : Issued) : Prop :=
  tag.toNat = t.val ∧ s.mover.tag t = some i ∧ i.sentSeq = seq

/-! ### The restore engine -/

/-- The fields of a REQUEST RESTORE fail a check of R103, step 1. -/
def badRestore (q : RestoreReq) : Prop :=
  47 < q.volume.toNat ∨ q.count.toNat = 0 ∨ 16777216 < q.count.toNat ∨ 4294967295 < q.first.toNat + q.count.toNat - 1 ∨
  16777215 < q.owner.toNat ∨ q.mode = none ∨ q.urgency = none ∨
  ∃ v t, q.mode = some (.side v t) ∧ (47 < v.toNat ∨ 4294967295 < t.toNat + q.count.toNat - 1 ∨
    (v = q.volume ∧ q.first.toNat < t.toNat + q.count.toNat ∧ t.toNat < q.first.toNat + q.count.toNat))

/-- The record that a REQUEST RESTORE with good fields makes (R103). -/
def queuedRestore (id : Nat) (q : RestoreReq) (mode : RestoreMode) (urgency : Urgency) : Restore :=
  { id := id, volume := q.volume.toNat, epoch := q.epoch.toNat, first := q.first.toNat, count := q.count.toNat, mode := mode,
    owner := q.owner.toNat, tags := q.tags, urgency := urgency, state := .queued, plan := none, ticket := none,
    cursor := none, inProgress := [], written := 0, freed := 0, preserved := 0, skipped := 0, stall := none,
    lastRefusal := none, outcome := none }

/-- The mode that a mode field names (R103). -/
def modeIsFor (q : RestoreReq) (mode : RestoreMode) : Prop :=
  (q.mode = some .inPlace ∧ mode = .inPlace) ∨ ∃ v t, q.mode = some (.side v t) ∧ mode = .side v.toNat t.toNat

/-- A snapshot without a holder (R47). -/
def Snapshot.without (h : Holder) (x : Snapshot) : Snapshot := { x with holds := x.holds.filter fun k => k ≠ h }

/-- A snapshot with a holder, listed once (R47). -/
def Snapshot.heldBy (h : Holder) (x : Snapshot) : Snapshot :=
  if h ∈ x.holds then x else { x with holds := x.holds ++ [h] }

/-- The last 16 records of an ended list (R102). -/
def lastEnded (l : List Restore) : List Restore := l.drop (l.length - 16)

/-- A record in the ended list (R102, R116). -/
def Restore.ended (r : Restore) (st : RestoreState) (o : RestoreOutcome) : Restore :=
  { r with state := st, outcome := some o, ticket := none, stall := none, lastRefusal := none, inProgress := [] }

/-- The part with the active restore of an id changed. -/
def State.withRestore (s : State) (id : Nat) (f : Restore → Restore) : State :=
  { s with rest := { s.rest with active := s.rest.active.map fun a => if a.id = id then f a else a } }

/-- What the closing of an active restore leaves, its source LIVE and no restore waiting for its place: the hold of the source
is released, a SIDE restore's claim is settled with the written count, the record is in the ended list, the mover's queue is
gone, and RESTORE_ENDED is raised (R116). -/
def State.closedAs (s : State) (r : Restore) (st : RestoreState) (o : RestoreOutcome) (t : State) : Prop :=
  ∃ snaps, snapsWith s.cat.snaps snaps (r.volume, r.epoch)
      ((s.snap? r.volume r.epoch).map (Snapshot.without (.restore r.id))) ∧
    let closed (quota : Quota) : State :=
      { s with
        quota := quota
        cat := { s.cat with snaps := snaps }
        mover := { s.mover with restoreQs := s.mover.restoreQs.filter fun d => d.id ≠ r.id }
        rest := { s.rest with active := s.rest.active.filter fun a => a.id ≠ r.id
                              ended := lastEnded (s.rest.ended ++ [r.ended st o]) } }
    let notice : NoticeBody := .restoreEnded r.id o r.written r.freed r.preserved
    (r.ticket = none → t = (closed s.quota).raise notice) ∧
    (∀ k c w, r.ticket = some k → s.claim? k = some c → s.owner? c.owner = some w →
      let settled : OwnerRecord := { w with reserved := w.reserved - c.granted, held := min (w.held + r.written) 4294967295 }
      let after := graceOutcome s.clock.minute (s.graceMinutes w) settled
      ∃ owners, ownersWith s.quota.owners owners c.owner (some { settled with grace := after.1 }) ∧
        t = ((closed { s.quota with owners := owners, claims := s.quota.claims.filter fun d => d.ticket ≠ c.ticket }).raiseIf
          after.2).raise notice)

/-! ### The duplication engine -/

/-- The duplication engine tests what it may do next, and the mover makes its test, as an event ends (R144, R145, R150, R151,
R93). -/
def State.engineTests (s : State) : State := (State.dupActs 1024 s.testAbandonEnd).moverEnd

/-- The offsite link after a good frame of the partner: the silence timer restarts while it runs (R156). -/
def Offsite.heard (o : Offsite) : Offsite := { o with silence := if o.link = .silent then o.silence else 0 }

/-- The part is SERVING and the offsite link UP. -/
def State.shipping (s : State) : Prop := s.mgmt.service = .serving ∧ s.offsite.link = .up

/-- No consignment of the window is being re-read (R150). -/
def State.noneReread (s : State) : Prop := ∀ c ∈ s.offsite.window, c.isRereading = false

/-- The delta blocks of a pass at or above a block (R142). -/
def State.inDelta (s : State) (p : Pass) (c b : Nat) : Prop :=
  c ≤ b ∧ ∃ e ∈ s.pres.index, e.volume = p.volume ∧ e.block = b ∧ p.base ≤ e.interval ∧ e.interval < p.target

/-- Every record of a consignment is in: DATA or VOID (R144). -/
def allIn (l : Reading) : Prop := ∀ x ∈ l, x.2 = .void ∨ ∃ c, x.2 = .data c

/-- The record of a block as CONSIGNMENT carries it (R145). -/
def sentRecord (x : Nat × BlockRecord) : Nat × Option (List Byte) :=
  (x.1, match x.2 with
    | .data c => some c
    | _ => none)

/-- A roster entry as a window close or the entry to STOPPED leaves it (R127, R135). -/
def RosterEntry.passedOver (e : RosterEntry) : RosterEntry :=
  if e.pass = .waiting ∨ e.deferred = true then { e with pass := .skipped, target := none, deferred := false, freed := false }
  else e

/-- The notices of the deferrals that a window close or the entry to STOPPED removes, in roster order (R133). -/
def State.raiseLate (roster : List RosterEntry) (s : State) : State :=
  (roster.filter fun e => e.deferred).foldl (fun t e => t.raise (.snapshotSkipped e.volume .late 0)) s

/-- The fault counter after one more rise (R155). -/
def Offsite.risen (o : Offsite) : Nat := min 255 (o.faultCounter + 1)

/-- One more rise of the fault counter does not make the link DEGRADED (R155). -/
def State.bearsFault (s : State) : Prop := s.offsite.link = .up → s.offsite.risen ≤ s.timers.faultThreshold

/-- The frame whose answer a pass awaits: PASS OPEN in OPENING, PASS CLOSE in CLOSING unless its SEALED is held (R141, R151,
R179). -/
def State.awaits (s : State) (p : Pass) (f : OffsiteFrame) : Prop :=
  (p.phase = .opening ∧ f = .passOpen p.number p.volume p.base p.target) ∨
  (p.phase = .closing ∧ s.offsite.heldSealed = none ∧ f = .passClose p.number p.recordsSent)

/-- The part with a frame sent to the partner, if the link is UP (R155, R186). -/
def State.sentIfUp (f : OffsiteFrame) (s : State) : State :=
  if s.offsite.link = .up then
    { s with sent := s.sent ++ [.offsite s.offsite.sequence f]
             offsite := { s.offsite with sequence := s.offsite.sequence + 1 } }
  else s

/-- The part with a PROBE sent, whose answer is awaited (R157). -/
def State.probed (s : State) : State :=
  { s with sent := s.sent ++ [.offsite s.offsite.sequence .probe]
           offsite := { s.offsite with sequence := s.offsite.sequence + 1, awaitedProbe := some s.offsite.sequence } }

/-- No two roster entries are for the same volume (R129). -/
def State.rosterDistinct (s : State) : Prop := (s.sched.roster.map (·.volume)).Nodup

/-- A roster entry for which a pass may begin, or which is skipped as it is looked at: WAITING, with a LIVE target (R140). -/
def State.entryReady (s : State) (e : RosterEntry) : Prop :=
  e.pass = .waiting ∧ ∃ t x, e.target = some t ∧ s.snap? e.volume t = some x ∧ x.state = .live

/-- Nothing on the volume waits for its snapshot to go LIVE: no request in its waiting list, and no active restore with its fence
there (R53, R54, R106, R110). -/
def State.unawaited (s : State) (v : Nat) : Prop :=
  (∀ x, s.volume? v = some x → x.waiting = []) ∧ ∀ r ∈ s.rest.active, r.fenceVolume ≠ v

/-- The snapshot point visits a roster entry, and the catalogue tests its volume for quiet where the visit has taken a snapshot (R53,
R132). -/
def State.visited (s : State) (e : RosterEntry) : State :=
  let w := takeSnapVisit e.volume { st := s, todo := [], touched := false }
  if w.todo = [] then w.st else w.st.goLive e.volume

/-- The part after the points at which the cycle counter has arrived: the snapshot point with its visits in roster order, then the
window opening, with its tests for a pass and for the end of the run, both in RUNNING only (R125, R132, R135, R152). -/
def State.pointsTaken (s : State) : State :=
  let c := s.sched
  let t := if c.state = .running ∧ c.counter = c.live.point then c.roster.foldl State.visited s else s
  if c.state = .running ∧ c.counter = c.live.window then
    State.testRunEnd (State.passTest { t with sched := { t.sched with windowOpen := true, runOpen := true } })
  else t

/-! ### Safe states -/

/-- The consignments begun and not committed: the unconfirmed window, and the one in hand (R144, R147). -/
def Offsite.unconfirmed (o : Offsite) : Nat := o.window.length + (o.pass.bind (·.inHand)).toList.length

/-- The lists and counts that the spec bounds, within their bounds: the clock (R183), the request queue, reply list and
notice queue (R172 to R174), the intake queues (R162), the claim list and each link's part of it (R27, R29), the volume
table, each volume once (R42), the waiting lists (R54), the snapshot records and each volume's (R46), the restore queue, active
places and ended list (R102), the roster, each volume once (R129), the unconfirmed window (R147), the pacer's credits (R146),
the fault counter (R155) and the probe history (R157). -/
structure State.Bounded (s : State) : Prop where
  seconds : s.clock.seconds ≤ 59
  minute : s.clock.minute ≤ 4294967295
  requests : s.mgmt.queue.length ≤ 4
  replies : s.mgmt.replies.length ≤ 8
  notices : s.mgmt.notices.length ≤ 64
  intakes : ∀ l : Link, (s.intake l).queue.length ≤ 16
  claims : s.quota.claims.length ≤ 4096
  linkClaims : ∀ l : Link, s.openClaims l ≤ 512
  volumes : s.cat.volumes.Pairwise (fun a b => a.volume < b.volume) ∧ ∀ v ∈ s.cat.volumes, v.volume ≤ 47
  waiting : ∀ v ∈ s.cat.volumes, v.waiting.length ≤ 64
  snaps : s.cat.snaps.length ≤ 768
  volumeSnaps : ∀ v : Nat, (s.cat.snaps.filter fun x => x.volume = v).length ≤ 24
  queued : s.rest.queue.length ≤ 16
  active : s.rest.active.length ≤ 4
  ended : s.rest.ended.length ≤ 16
  roster : s.rosterDistinct ∧ ∀ e ∈ s.sched.roster, e.volume ≤ 47
  unconfirmed : s.offsite.unconfirmed ≤ 16
  credits : s.offsite.credits ≤ 64
  faults : s.offsite.faultCounter ≤ 255
  probes : s.offsite.probeHistory.length ≤ 3

/-- Every claim, pending preservation and snapshot OPENING is accounted for, as the rules make them: an OPENING snapshot is
its defined volume's only one (R52), a restore's pending preservation and a RESTORE claim are an active restore's (R37, R82),
no two claims have one ticket, and an owner's reserved count is what its open claims were granted (R27). -/
structure State.Accounted (s : State) : Prop where
  opening : ∀ x ∈ s.cat.snaps, x.state = .opening → (∃ v ∈ s.cat.volumes, v.volume = x.volume) ∧
    ∀ y ∈ s.cat.snaps, y.state = .opening → y.volume = x.volume → y.epoch = x.epoch
  pendings : ∀ p ∈ s.pres.pendings, ∀ id, p.who = .restore id → ∃ r ∈ s.rest.active, r.id = id
  restoreClaims : ∀ c ∈ s.quota.claims, c.kind = .restore → ∃ r ∈ s.rest.active, r.ticket = some c.ticket
  tickets : (s.quota.claims.map (·.ticket)).Nodup
  reserved : ∀ r ∈ s.quota.owners, r.reserved = ((s.quota.claims.filter fun c => c.owner = r.owner).map (·.granted)).sum

/-- The owner table stands in strictly ascending owner number, so no two records are for the same owner, and holds at most
16,384 records (R1). -/
def State.OwnersOrdered (s : State) : Prop :=
  s.quota.owners.Pairwise (fun a b => a.owner < b.owner) ∧ s.quota.owners.length ≤ 16384

/-! ### What every step keeps together -/

/-- An active restore's record hangs together: PLANNING, it has made no claim; up to FENCING it has no block in progress; its cursor
stands at or above its first source block, and its blocks in progress, each once, from that block to below the cursor (R102, R106,
R109 to R111). -/
structure Restore.Orderly (r : Restore) : Prop where
  unclaimed : r.state = .planning → r.ticket = none
  unstarted : r.state = .planning ∨ r.state = .fencing → r.inProgress = []
  cursor : ∀ c, r.cursor = some c → r.first ≤ c
  distinct : (r.inProgress.map (·.1)).Nodup
  started : ∀ x ∈ r.inProgress, r.first ≤ x.1 ∧ ∃ c, r.cursor = some c ∧ x.1 < c

/-- The mover's operations, waiting or issued (R86, R87). -/
def Mover.operations (m : Mover) : List StoreOp :=
  m.preservationQ ++ m.restoreQs.flatMap (·.ops) ++ m.duplicationQ ++ m.serviceQ ++ m.issued.map (·.op)

/-- The blocks that the mover's operations of restores are for: the restore's id and the source block (R86, R111). -/
def State.blocksAtMover (s : State) : List (Nat × Nat) :=
  s.mover.operations.filterMap fun op => match op.client with
    | .restore id b => some (id, b)
    | _ => none

/-- The blocks that the pending preservations of restores are for: the restore's id and the target block (R82). -/
def State.blocksPreserving (s : State) : List (Nat × Nat) :=
  s.pres.pendings.filterMap fun p => match p.who with
    | .restore id => some (id, p.first)
    | .link _ _ => none

/-- What the rules keep of a state together, by which nothing is lost from account: beside `Bounded`, `OwnersOrdered` and
`Accounted`, a roster entry's volume is defined (R130), and only a deferred take is left due (log entry 11); a claim has a granted
count and its owner a record (R14, R27), and none is open in STARTING and LOADING (R176); a load is under way in LOADING alone
(R180); no two queued or active restores have one id, and a queued one has begun nothing (R104, R105); the active ones hang
together, the mover's queues of restores are theirs (R87), and each pending preservation and each operation at the mover for a
restore is for a block that it has in progress, no two for the same one (R82, R111 to R113). -/
structure State.Sound (s : State) : Prop where
  bounded : s.Bounded
  owners : s.OwnersOrdered
  accounted : s.Accounted
  roster : ∀ e ∈ s.sched.roster, (e.freed = true → e.deferred = true) ∧ ∃ v ∈ s.cat.volumes, v.volume = e.volume
  claims : ∀ c ∈ s.quota.claims, 0 < c.granted ∧ ∃ r ∈ s.quota.owners, r.owner = c.owner
  unopened : s.mgmt.service = .starting ∨ s.mgmt.service = .loading → s.quota.claims = []
  loading : ∀ extent next out read faulted blocks, s.mgmt.job = some (.load extent next out read faulted blocks) →
    s.mgmt.service = .loading
  ids : ((s.rest.queue ++ s.rest.active).map (·.id)).Nodup
  queued : ∀ r ∈ s.rest.queue, r.ticket = none ∧ r.cursor = none ∧ r.inProgress = []
  active : ∀ r ∈ s.rest.active, r.Orderly
  queues : (s.mover.restoreQs.map (·.id)).Nodup ∧ ∀ q ∈ s.mover.restoreQs, ∃ r ∈ s.rest.active, r.id = q.id
  preserving : s.blocksPreserving.Nodup ∧ ∀ x ∈ s.blocksPreserving, ∃ r ∈ s.rest.active, r.id = x.1 ∧
    ∃ b found, (b, .preserving found) ∈ r.inProgress ∧ x.2 = r.targetOf b
  moving : s.blocksAtMover.Nodup ∧ ∀ x ∈ s.blocksAtMover, ∃ r ∈ s.rest.active, r.id = x.1 ∧
    ((x.2, .writing) ∈ r.inProgress ∨ (x.2, .freeing) ∈ r.inProgress)

end Sys2Proof.Machine
end

