-- ==== Sys2Proof/Certificates/Slice0/Obligations.lean ====
section
/-! DEFINITION. The statements about the model, each from the rules of spec/ it formalises. -/

open Sys2Proof Sys2Proof.Machine

/-! ### Owners and policy rows -/

/-- R10, with the clamps and the evaluation of R24: WRITE OWNER. An owner with a record: the six settings replace the
record's, the rest of it is kept but for the grace state that the evaluation gives, and the reply carries CLAMPED and that
grace state. An owner with none, while the table holds fewer than 16,384: a record with origin WRITTEN and nothing charged
is created, WITHIN and without a notice, and the reply carries CREATED. No other record changes. -/
def Obligations.WriteOwnerWritesTheRecord : Prop :=
  ∀ (s : State) (seq : U16) (q : WriteOwnerReq) (cls : OwnerClass),
    s.mgmtReady → configurable s.mgmt.service = true → q.owner.toNat ≤ 16777215 → q.cls = some cls →
    q.overdraft.toNat ≤ 1048575 →
    let clamped := decide (q.hard.toNat < q.soft.toNat) || decide (16 < q.share.toNat)
    (∀ r, s.owner? q.owner.toNat = some r →
      let written : OwnerRecord :=
        { r with cls := cls, hard := q.hard.toNat, soft := min q.soft.toNat q.hard.toNat, share := min q.share.toNat 16,
                 overdraft := q.overdraft.toNat, overTags := q.tags }
      let after := graceOutcome s.clock.minute (s.graceMinutes r) written
      ∃ owners, exec (.writeOwner seq q) s =
          .next ((({ s.heard with quota := { s.quota with owners := owners } } : State).raiseIf after.2).reply seq 16 .ok
            (if clamped then 1 else 0) (.grace after.1)) ∧
        ownersWith s.quota.owners owners q.owner.toNat (some { written with grace := after.1 })) ∧
    (s.owner? q.owner.toNat = none → s.quota.owners.length < 16384 →
      ∃ owners, exec (.writeOwner seq q) s =
          .next (({ s.heard with quota := { s.quota with owners := owners } } : State).reply seq 16 .ok
            (if clamped then 5 else 4) (.grace .within)) ∧
        owners.length = s.quota.owners.length + 1 ∧
        ownersWith s.quota.owners owners q.owner.toNat (some
          { owner := q.owner.toNat, cls := cls, hard := q.hard.toNat, soft := min q.soft.toNat q.hard.toNat, held := 0,
            reserved := 0, pinned := 0, share := min q.share.toNat 16, overdraft := q.overdraft.toNat, overTags := q.tags,
            grace := .within, origin := .written })) ∧
    (s.owner? q.owner.toNat = none → 16384 ≤ s.quota.owners.length →
      exec (.writeOwner seq q) s = .next (s.heard.reply seq 16 .ownerTableFull 0 .empty))

/-- R12, R13: READ OWNER in the mode EXACT gives the record named, or UNKNOWN_OWNER; in the mode NEXT, with the table in
ascending order (R1), the first record at or above the number named, or END. Neither changes anything but the mark and the
reply list. (The model's choice: the status OK of a record found, log entry 40.) -/
def Obligations.ReadOwnerReturnsTheRecord : Prop :=
  ∀ (s : State) (seq : U16) (n : U32), s.mgmtReady → configurable s.mgmt.service = true →
    (∀ r, n.toNat ≤ 16777215 → s.owner? n.toNat = some r → exec (.readOwnerExact seq n) s =
      .next (s.heard.reply seq 17 .ok 0 (.owner
        { record := r, graceMinutes := s.graceMinutes r, pinCharge := (r.pinned * r.share + 15) / 16,
          charge := min (r.held + r.reserved + (r.pinned * r.share + 15) / 16) 4294967295,
          usage := min (r.held + (r.pinned * r.share + 15) / 16) 4294967295,
          limit := if r.grace = .expired then r.soft else r.hard,
          limitWithOverdraft := min ((if r.grace = .expired then r.soft else r.hard) + r.overdraft) 4294967295 }))) ∧
    (n.toNat ≤ 16777215 → s.owner? n.toNat = none →
      exec (.readOwnerExact seq n) s = .next (s.heard.reply seq 17 .unknownOwner 0 .empty)) ∧
    (n.toNat ≤ 16777216 → s.OwnersOrdered → exec (.readOwnerNext seq n) s =
      .next (match s.quota.owners.find? fun r => n.toNat ≤ r.owner with
        | some r => s.heard.reply seq 17 .ok 0 (.owner (s.ownerView r))
        | none => s.heard.reply seq 17 .endOfTable 0 .empty))

/-- R14: REMOVE OWNER removes a record with nothing held, reserved or pinned that no queued or active restore names; any
other record stays and the request is refused IN_USE, and with no record UNKNOWN_OWNER. -/
def Obligations.RemoveOwnerNeedsAnUnusedRecord : Prop :=
  ∀ (s : State) (seq : U16) (n : U32), s.mgmtReady → configurable s.mgmt.service = true → n.toNat ≤ 16777215 →
    (s.owner? n.toNat = none → exec (.removeOwner seq n) s = .next (s.heard.reply seq 18 .unknownOwner 0 .empty)) ∧
    (∀ r : OwnerRecord, s.owner? n.toNat = some r →
      let named := ∃ x ∈ s.rest.queue ++ s.rest.active, x.owner = n.toNat
      (r.held = 0 → r.reserved = 0 → r.pinned = 0 → ¬named →
        ∃ owners, exec (.removeOwner seq n) s =
            .next (({ s.heard with quota := { s.quota with owners := owners } } : State).reply seq 18 .ok 0 .empty) ∧
          ownersWith s.quota.owners owners n.toNat none) ∧
      (r.held ≠ 0 ∨ r.reserved ≠ 0 ∨ r.pinned ≠ 0 ∨ named →
        exec (.removeOwner seq n) s = .next (s.heard.reply seq 18 .inUse 0 .empty)))

/-- R15 with R24: SET USAGE sets held, leaves reserved and pinned, evaluates grace, and replies with the held count before and
after and the grace state; with no record it is refused UNKNOWN_OWNER and creates none. -/
def Obligations.SetUsageSetsHeld : Prop :=
  ∀ (s : State) (seq : U16) (n held : U32), s.mgmtReady → configurable s.mgmt.service = true → n.toNat ≤ 16777215 →
    (s.owner? n.toNat = none → exec (.setUsage seq n held) s = .next (s.heard.reply seq 19 .unknownOwner 0 .empty)) ∧
    (∀ r : OwnerRecord, s.owner? n.toNat = some r →
      let written : OwnerRecord := { r with held := held.toNat }
      let after := graceOutcome s.clock.minute (s.graceMinutes r) written
      ∃ owners, exec (.setUsage seq n held) s =
          .next ((({ s.heard with quota := { s.quota with owners := owners } } : State).raiseIf after.2).reply seq 19 .ok 0
            (.usage r.held held.toNat after.1)) ∧
        ownersWith s.quota.owners owners n.toNat (some { written with grace := after.1 }))

/-- R24, every line of its table: what the grace evaluation makes of a record; and R2: the grace minutes are those of the
origin row as it stands, or 10,080 for the origin WRITTEN. -/
def Obligations.GraceEvaluationFollowsTheTable : Prop :=
  ∀ (s : State) (r : OwnerRecord),
    let u := min (r.held + (r.pinned * r.share + 15) / 16) 4294967295
    let minutes := s.graceMinutes r
    let outcome := graceOutcome s.clock.minute minutes r
    let deadline := (s.clock.minute + minutes) % 4294967296
    (r.origin = .written → minutes = 10080) ∧
    (∀ (i : Fin 24) (row : PolicyRow), r.origin = .row i.val → s.quota.policy[i] = some row → minutes = row.graceMinutes) ∧
    (r.grace = .within → u ≤ r.soft → outcome = (.within, none)) ∧
    (r.grace = .within → r.soft < u → 0 < minutes → outcome = (.grace deadline, some (.graceStarted r.owner u deadline))) ∧
    (r.grace = .within → r.soft < u → minutes = 0 → outcome = (.expired, some (.graceExpired r.owner u r.soft))) ∧
    (∀ d, r.grace = .grace d → u ≤ r.soft → outcome = (.within, some (.graceEnded r.owner u r.soft))) ∧
    (∀ d, r.grace = .grace d → r.soft < u → outcome = (.grace d, none)) ∧
    (r.grace = .expired → u ≤ r.soft → outcome = (.within, some (.graceEnded r.owner u r.soft))) ∧
    (r.grace = .expired → r.soft < u → outcome = (.expired, none))

/-- R7: WRITE POLICY with good fields fills the row named, clamped, with the pattern's bits outside the mask cleared; the
other rows and every owner stay, and the reply carries CLAMPED and REPLACED. -/
def Obligations.WritePolicyFillsTheRow : Prop :=
  ∀ (s : State) (seq : U16) (q : WritePolicyReq) (cls : OwnerClass) (h : q.index.toNat < 24),
    s.mgmtReady → configurable s.mgmt.service = true → (∀ v, q.volume = some v → v.toNat ≤ 47) → q.cls = some cls →
    q.overdraft.toNat ≤ 1048575 → q.tagCondition ≠ some 0 →
    let row : PolicyRow :=
      { pattern := q.pattern &&& q.mask, mask := q.mask, volume := q.volume.map (·.toNat), tagCondition := q.tagCondition,
        cls := cls, hard := q.hard.toNat, soft := min q.soft.toNat q.hard.toNat, share := min q.share.toNat 16,
        overdraft := q.overdraft.toNat, overTags := q.tags, graceMinutes := min q.graceMinutes.toNat 43200 }
    let clamped := decide (q.hard.toNat < q.soft.toNat ∨ 16 < q.share.toNat ∨ 43200 < q.graceMinutes.toNat)
    let replaced := (s.quota.policy[q.index.toNat]).isSome
    exec (.writePolicy seq q) s =
      .next (({ s.heard with quota := { s.quota with policy := s.quota.policy.set q.index.toNat (some row) } } : State).reply
        seq 20 .ok ((if clamped then 1 else 0) ||| (if replaced then 2 else 0)) .empty)

/-- R8: ERASE POLICY of a filled row empties it and turns the origin of each owner from that row to WRITTEN, whose count the
reply carries; of an empty row it changes nothing and replies 0; an index above 23 is refused BAD_FIELD. -/
def Obligations.ErasePolicyTurnsOriginsToWritten : Prop :=
  ∀ (s : State) (seq : U16) (i : U32), s.mgmtReady → configurable s.mgmt.service = true →
    (23 < i.toNat → exec (.erasePolicy seq i) s = .next (s.heard.reply seq 21 .badField 0 .empty)) ∧
    (∀ h : i.toNat < 24,
      (s.quota.policy[i.toNat] = none → exec (.erasePolicy seq i) s = .next (s.heard.reply seq 21 .ok 0 (.number 0))) ∧
      (s.quota.policy[i.toNat] ≠ none → exec (.erasePolicy seq i) s =
        .next (({ s.heard with quota :=
            { s.quota with
              policy := s.quota.policy.set i.toNat none
              owners := s.quota.owners.map fun r => if r.origin = .row i.toNat then { r with origin := .written } else r } }
            : State).reply seq 21 .ok 0 (.number (s.quota.owners.countP fun r => r.origin = .row i.toNat)))))

/-! ### Claims -/

/-- R30 and R31, by the arithmetic of R19 to R21 and the ticket of R28: a CLAIM in SERVING. The checks of R30, steps 1 to 4,
refuse it in order and change nothing: BAD_FIELD, UNKNOWN_VOLUME, WRONG_LINK, CLAIM_TABLE_FULL. One that passes them, for an
owner with a record, is granted whole when the room allows, in part when the room is at least 1 and partial-ok is set, and
otherwise refused OVER_LIMIT with no change. A grant raises reserved, takes the ticket and enters the claim at the tail of
the list. R162 and R164: outside SERVING a CLAIM and a PRESERVE, and in STARTING and LOADING a SETTLE and a RELEASE too, are
answered NOT_SERVING by the intake, no unit reached. -/
def Obligations.ClaimIsDecidedAgainstTheRoom : Prop :=
  (∀ (s : State) (l : Link) (seq : U16) (q : ClaimReq), s.linkReady l → s.mgmt.service = .serving →
    let refused (st : Status) : Prop := exec (.claim l seq q) s = .next ((s.heardOn l).answer l seq (.claim st none 0 0 0 0))
    (q.count.toNat = 0 ∨ 65536 < q.count.toNat ∨ 16777215 < q.owner.toNat → refused .badField) ∧
    (0 < q.count.toNat → q.count.toNat ≤ 65536 → q.owner.toNat ≤ 16777215 →
      (s.volume? q.volume.toNat = none → refused .unknownVolume) ∧
      (∀ v, s.volume? q.volume.toNat = some v →
        (v.link ≠ l → refused .wrongLink) ∧
        (v.link = l → (4096 ≤ s.quota.claims.length ∨ 512 ≤ s.openClaims l) → refused .claimTableFull)))) ∧
  (∀ (s : State) (l : Link) (seq : U16), s.linkReady l → s.mgmt.service ≠ .serving →
    let turnedAway (r : ServerReply) : Host.Outcome State Fault Refusal := .next ((s.heardOn l).answer l seq r)
    (∀ q : ClaimReq, exec (.claim l seq q) s = turnedAway (.claim .notServing none 0 0 0 0)) ∧
    (∀ q : PreserveReq, exec (.preserve l seq q) s =
      turnedAway (.preserve .notServing q.volume.toNat q.first.toNat 0 0 0 0 [])) ∧
    (s.mgmt.service = .starting ∨ s.mgmt.service = .loading →
      (∀ q : SettleReq, exec (.settle l seq q) s = turnedAway (.settle .notServing 0 0 0 0)) ∧
      (∀ q : ReleaseReq, exec (.release l seq q) s = turnedAway (.release .notServing 0 0)))) ∧
  ∀ (s : State) (l : Link) (seq : U16) (q : ClaimReq) (v : Volume) (r : OwnerRecord),
    s.linkReady l → s.mgmt.service = .serving → 0 < q.count.toNat → q.count.toNat ≤ 65536 → q.owner.toNat ≤ 16777215 →
    s.volume? q.volume.toNat = some v → v.link = l → s.quota.claims.length < 4096 → s.openClaims l < 512 →
    s.owner? q.owner.toNat = some r →
    let charge := min (r.held + r.reserved + (r.pinned * r.share + 15) / 16) 4294967295
    let limit := if r.grace = .expired then r.soft else r.hard
    let ceiling := if q.tags &&& r.overTags = 0 then limit else min (limit + r.overdraft) 4294967295
    let room := ceiling - charge
    let n := q.count.toNat
    (n ≤ room ∨ (q.partialOk = true ∧ 1 ≤ room) →
      let granted := min n room
      let after := graceOutcome s.clock.minute (s.graceMinutes r) { r with reserved := r.reserved + granted }
      ∃ owners, exec (.claim l seq q) s =
          .next ((({ s.heardOn l with quota :=
              { s.quota with
                owners := owners
                claims := s.quota.claims ++
                  [{ ticket := s.ticket, owner := q.owner.toNat, granted := granted,
                     kind := .server l s.timers.claimLifetime }]
                ticketCounter := if s.ticket < 4294967295 then s.ticket + 1 else 1 } } : State).raiseIf after.2).answer l seq
            (.claim (if granted = n then .granted else .partialGrant) (some after.1) s.ticket granted room
              s.timers.claimLifetime)) ∧
        ownersWith s.quota.owners owners q.owner.toNat
          (some { r with reserved := r.reserved + granted, grace := after.1 })) ∧
    (room < n → (q.partialOk = false ∨ room = 0) → exec (.claim l seq q) s =
      .next ((s.heardOn l).answer l seq (.claim .overLimit (some r.grace) 0 0 room 0)))

/-- R28: the ticket a claim takes is the counter's value, unless that is an open claim's ticket; then it is the first value
after it, skipping 0 at the wrap, that no open claim has: every value from the counter up to the ticket, round the wrap
and without 0, is an open claim's ticket. So the ticket taken is always one that no open claim has. -/
def Obligations.TicketsAreFresh : Prop :=
  ∀ s : State, 1 ≤ s.quota.ticketCounter → s.quota.ticketCounter ≤ 4294967295 → s.quota.claims.length ≤ 4096 →
    1 ≤ s.ticket ∧ s.ticket ≤ 4294967295 ∧ (∀ c ∈ s.quota.claims, c.ticket ≠ s.ticket) ∧
    ((∀ c ∈ s.quota.claims, c.ticket ≠ s.quota.ticketCounter) → s.ticket = s.quota.ticketCounter) ∧
    ∀ n, 1 ≤ n → n ≤ 4294967295 →
      (if s.quota.ticketCounter ≤ s.ticket then s.quota.ticketCounter ≤ n ∧ n < s.ticket
        else s.quota.ticketCounter ≤ n ∨ n < s.ticket) →
      ∃ c ∈ s.quota.claims, c.ticket = n

/-- R4: a row matches when the owner number has the pattern's bit wherever the care mask has a 1, the row's volume is ANY or the
request's, and its tag condition is absent or has a tag of the request's. R5: a CLAIM for an owner with no record creates one
from the first row that matches before it is decided, and the record stays even when admission refuses; with no row it is
refused UNKNOWN_OWNER, with a full table OWNER_TABLE_FULL. -/
def Obligations.ClaimCreatesFromTheFirstMatchingRow : Prop :=
  (∀ (row : PolicyRow) (owner volume : Nat) (tags : TagSet), row.matches owner volume tags = true ↔
    (∀ i, i < 24 → row.mask.getLsbD i = true → owner.testBit i = row.pattern.getLsbD i) ∧
    (row.volume = none ∨ row.volume = some volume) ∧
    (∀ c, row.tagCondition = some c → ∃ t, t < 8 ∧ c.getLsbD t = true ∧ tags.getLsbD t = true)) ∧
  ∀ (s : State) (l : Link) (seq : U16) (q : ClaimReq) (v : Volume),
    s.linkReady l → s.mgmt.service = .serving → 0 < q.count.toNat → q.count.toNat ≤ 65536 → q.owner.toNat ≤ 16777215 →
    s.volume? q.volume.toNat = some v → v.link = l → s.quota.claims.length < 4096 → s.openClaims l < 512 →
    s.owner? q.owner.toNat = none →
    let fits (i : Fin 24) (row : PolicyRow) : Prop :=
      s.quota.policy[i] = some row ∧ row.matches q.owner.toNat q.volume.toNat q.tags = true
    ((∀ i row, ¬fits i row) → exec (.claim l seq q) s = .next ((s.heardOn l).answer l seq (.claim .unknownOwner none 0 0 0 0))) ∧
    (∀ i row, fits i row → (∀ j, j < i → ∀ other, ¬fits j other) →
      (16384 ≤ s.quota.owners.length →
        exec (.claim l seq q) s = .next ((s.heardOn l).answer l seq (.claim .ownerTableFull none 0 0 0 0))) ∧
      (s.quota.owners.length < 16384 →
        let created : OwnerRecord :=
          { owner := q.owner.toNat, cls := row.cls, hard := row.hard, soft := row.soft, held := 0, reserved := 0, pinned := 0,
            share := row.share, overdraft := row.overdraft, overTags := row.overTags, grace := .within,
            origin := .row i.val }
        ∃ t owners, exec (.claim l seq q) s = .next t ∧
          ownersWith s.quota.owners owners q.owner.toNat (some created) ∧ owners.length = s.quota.owners.length + 1 ∧
          exec (.claim l seq q) ({ s with quota := { s.quota with owners := owners } } : State) = .next t))

/-- R33: a SETTLE of an open SERVER claim, on any link, in SERVING, PAUSING, PAUSED and SAVING. The used count is taken as at
most the granted count; the claim leaves the list, reserved falls and held rises in one event, grace is evaluated once, and
the reply is SETTLED. A SETTLE whose ticket names no open claim, or a RESTORE claim, is answered STALE and leaves the
records and the list as they were. -/
def Obligations.SettleClosesTheClaim : Prop :=
  ∀ (s : State) (l : Link) (seq : U16) (q : SettleReq),
    s.linkReady l → s.mgmt.service ≠ .starting → s.mgmt.service ≠ .loading →
    (∀ c k rest r, s.claim? q.ticket.toNat = some c → c.kind = .server k rest → s.owner? c.owner = some r →
      let used := min q.used.toNat c.granted
      let settled : OwnerRecord := { r with reserved := r.reserved - c.granted, held := min (r.held + used) 4294967295 }
      let after := graceOutcome s.clock.minute (s.graceMinutes r) settled
      ∃ owners, exec (.settle l seq q) s =
          .next ((({ s.heardOn l with quota :=
              { s.quota with owners := owners, claims := s.quota.claims.filter fun d => d.ticket ≠ c.ticket } }
              : State).raiseIf after.2).answer l seq
            (.settle .settled (if c.granted < q.used.toNat then 1 else 0) c.owner used settled.held)) ∧
        ownersWith s.quota.owners owners c.owner (some { settled with grace := after.1 })) ∧
    ((∀ c, s.claim? q.ticket.toNat = some c → c.kind = .restore) →
      exec (.settle l seq q) s = .next ((s.heardOn l).answer l seq (.settle .stale 0 0 0 0)))

/-- R35: a RELEASE lowers held by its count, stopping at 0, and evaluates grace; it creates no record. -/
def Obligations.ReleaseLowersHeld : Prop :=
  ∀ (s : State) (l : Link) (seq : U16) (q : ReleaseReq),
    s.linkReady l → s.mgmt.service ≠ .starting → s.mgmt.service ≠ .loading →
    (q.count.toNat = 0 ∨ 16777215 < q.owner.toNat →
      exec (.release l seq q) s = .next ((s.heardOn l).answer l seq (.release .badField 0 0))) ∧
    (0 < q.count.toNat → q.owner.toNat ≤ 16777215 → s.owner? q.owner.toNat = none →
      exec (.release l seq q) s = .next ((s.heardOn l).answer l seq (.release .unknownOwner 0 0))) ∧
    (∀ r, 0 < q.count.toNat → q.owner.toNat ≤ 16777215 → s.owner? q.owner.toNat = some r →
      let released : OwnerRecord := { r with held := r.held - q.count.toNat }
      let after := graceOutcome s.clock.minute (s.graceMinutes r) released
      ∃ owners, exec (.release l seq q) s =
          .next ((({ s.heardOn l with quota := { s.quota with owners := owners } } : State).raiseIf after.2).answer l seq
            (.release .released (if r.held < q.count.toNat then 1 else 0) released.held)) ∧
        ownersWith s.quota.owners owners q.owner.toNat (some { released with grace := after.1 }))

/-- R32: a SERVER claim whose lifetime has run out lapses: it leaves the list, held rises by the whole granted count,
saturated, as reserved falls by it, grace is evaluated, and CLAIM_LAPSED is raised after the evaluation's notice. (The
model's choice: the expiry as a command, log entry 4.) -/
def Obligations.LapseChargesTheGrantedCount : Prop :=
  ∀ (s : State) (ticket : U32) (c : Claim) (k : Link) (r : OwnerRecord),
    s.claim? ticket.toNat = some c → c.kind = .server k 0 → s.owner? c.owner = some r →
    let lapsed : OwnerRecord := { r with reserved := r.reserved - c.granted, held := min (r.held + c.granted) 4294967295 }
    let after := graceOutcome s.clock.minute (s.graceMinutes r) lapsed
    ∃ owners, exec (.claimLapse ticket) s =
        .next ((({ s with quota :=
            { s.quota with owners := owners, claims := s.quota.claims.filter fun d => d.ticket ≠ c.ticket } }
            : State).raiseIf after.2).raise (.claimLapsed c.owner c.ticket c.granted)) ∧
      ownersWith s.quota.owners owners c.owner (some { lapsed with grace := after.1 })

/-- R25: outside LOADING, an owner in GRACE whose deadline is due (the distance forward to it round the wrap is 0 or above
43,200) becomes EXPIRED, its deadline goes, and GRACE_EXPIRED is raised; one whose deadline is not due keeps its grace.
(The model's choice: the expiry as a command that does nothing before it is due, log entry 4.) -/
def Obligations.GraceExpiresWhenDue : Prop :=
  ∀ (s : State) (n : U32) (r : OwnerRecord) (d : Nat),
    s.mgmt.service ≠ .loading → s.clock.minute < 4294967296 → d < 4294967296 → s.owner? n.toNat = some r → r.grace = .grace d →
    let distance := if s.clock.minute ≤ d then d - s.clock.minute else d + 4294967296 - s.clock.minute
    (distance = 0 ∨ 43200 < distance →
      ∃ owners, exec (.graceExpiry n) s =
          .next (({ s with quota := { s.quota with owners := owners } } : State).raise
            (.graceExpired r.owner (min (r.held + (r.pinned * r.share + 15) / 16) 4294967295) r.soft)) ∧
        ownersWith s.quota.owners owners n.toNat (some { r with grace := .expired })) ∧
    (0 < distance → distance ≤ 43200 → exec (.graceExpiry n) s = .next s)

/-! ### Volumes and snapshots -/

/-- R43 and R44: DEFINE VOLUME makes an entry with an empty waiting list and no merge, or replaces the link of the one there
with the flag REBOUND; REMOVE VOLUME takes an entry out unless a snapshot, an index entry, a roster entry, a queued or active
restore or a waiting request uses the volume, and then it is refused IN_USE. -/
def Obligations.VolumesAreDefinedAndRemoved : Prop :=
  ∀ (s : State) (seq : U16) (v : U32), s.mgmtReady → configurable s.mgmt.service = true → v.toNat ≤ 47 →
    (∀ (link : U32) (h : link.toNat < 8),
      (s.volume? v.toNat = none → ∃ volumes, exec (.defineVolume seq v link) s =
          .next (({ s.heard with cat := { s.cat with volumes := volumes } } : State).reply seq 22 .ok 0 .empty) ∧
        volumesWith s.cat.volumes volumes v.toNat
          (some { volume := v.toNat, link := ⟨link.toNat, h⟩, waiting := [], merge := none })) ∧
      (∀ e, s.volume? v.toNat = some e → ∃ volumes, exec (.defineVolume seq v link) s =
          .next (({ s.heard with cat := { s.cat with volumes := volumes } } : State).reply seq 22 .ok 16 .empty) ∧
        volumesWith s.cat.volumes volumes v.toNat (some { e with link := ⟨link.toNat, h⟩ }))) ∧
    (∀ e, s.volume? v.toNat = some e →
      let used := (∃ x ∈ s.cat.snaps, x.volume = v.toNat) ∨ (∃ x ∈ s.pres.index, x.volume = v.toNat) ∨
        s.roster? v.toNat ≠ none ∨
        (∃ r ∈ s.rest.queue ++ s.rest.active, r.volume = v.toNat ∨ r.fenceVolume = v.toNat) ∨ e.waiting ≠ []
      (used → exec (.removeVolume seq v) s = .next (s.heard.reply seq 23 .inUse 0 .empty)) ∧
      (¬used → ∃ volumes, exec (.removeVolume seq v) s =
          .next (({ s.heard with cat := { s.cat with volumes := volumes } } : State).reply seq 23 .ok 0 .empty) ∧
        volumesWith s.cat.volumes volumes v.toNat none))

/-- R52 and R53: TAKE SNAPSHOT, in a state that takes it and with every check passed, makes a MANUAL record in OPENING
with the next epoch of the volume, which the counter then leaves behind (0 once none is left), and replies ACCEPTED with
the epoch. On a volume that is not quiet it stays OPENING; on a quiet one it goes LIVE in the same event, stamped with the
minute, with SNAPSHOT_LIVE. R133: where a deferred nightly take of the volume is due, the freed place is taken, and it is
refused FULL: its entry becomes SKIPPED without it, with SNAPSHOT_SKIPPED. (The model's choice: a deferred take left due
after the merge's end, the test for quiet in the event, the printable characters, and a present label of no characters, log
entries 11, 14, 31 and 47.) -/
def Obligations.TakeSnapshotOpensARecord : Prop :=
  ∀ (s : State) (seq : U16) (v : U32) (label : Option (List Byte)) (h : v.toNat < 48),
    s.mgmtReady → operable s.mgmt.service = true → labelOk label = true → s.volume? v.toNat ≠ none →
    s.hasSnap v.toNat .opening = false → (s.snapsOf v.toNat).length < 24 → s.cat.snaps.length < 768 →
    s.nextEpoch v.toNat ≠ 0 → s.snap? v.toNat (s.nextEpoch v.toNat) = none →
    let e := s.nextEpoch v.toNat
    let counters := s.cat.nextEpoch.set v.toNat (if e < 4294967295 then e + 1 else 0)
    let due := (s.roster? v.toNat).any fun r => r.deferred && r.freed
    let after (snaps : List Snapshot) : State :=
      (({ s.heard with
        cat := { s.cat with snaps := snaps, nextEpoch := counters }
        sched := { s.sched with roster := if due then s.sched.roster.map fun r => if r.volume = v.toNat then
            { r with pass := .skipped, target := none, deferred := false, freed := false } else r else s.sched.roster } } : State
        ).reply seq 24 .accepted 0 (.number e)).raiseIf (if due then some (.snapshotSkipped v.toNat .full 0) else none)
    (s.isQuiet v.toNat = false → ∃ snaps, exec (.takeSnapshot seq v label) s = .next (after snaps) ∧
      snapsWith s.cat.snaps snaps (v.toNat, e) (some (s.openedSnapshot v.toNat label))) ∧
    (s.isQuiet v.toNat = true → s.nothingAwaits v.toNat e → ∃ snaps,
      exec (.takeSnapshot seq v label) s = .next ((after snaps).raise (.snapshotLive v.toNat e .manual)) ∧
      snapsWith s.cat.snaps snaps (v.toNat, e)
        (some { s.openedSnapshot v.toNat label with state := .live, creation := some s.clock.minute }))

/-- R53: a volume is quiet when it has no COPYING entry, no pending preservation, and no restore's WRITE or FREE to it at
the mover; the test for quiet puts an OPENING snapshot of a quiet volume LIVE, stamped with the minute, with
SNAPSHOT_LIVE, and changes nothing on a volume that is not quiet or has none OPENING. (The model's choice: the row as the
test of one volume, log entry 14.) -/
def Obligations.OpeningSnapshotGoesLiveOnAQuietVolume : Prop :=
  ∀ (s : State) (v : Fin 48),
    (s.isQuiet v = true ↔ (∀ e ∈ s.pres.index, e.volume = v → e.copying = false) ∧
      (∀ p ∈ s.pres.pendings, p.volume ≠ v) ∧ s.mover.restoreWriting v = false) ∧
    (s.isQuiet v = false ∨ s.hasSnap v .opening = false → exec (.goLive v) s = .next s) ∧
    (∀ x, s.isQuiet v = true → (s.snapsOf v).find? (fun x => x.state = .opening) = some x → s.snap? v x.epoch = some x →
      s.nothingAwaits v x.epoch → ∃ snaps,
        exec (.goLive v) s = .next (({ s with cat := { s.cat with snaps := snaps } } : State).raise
          (.snapshotLive v x.epoch x.kind)) ∧
        snapsWith s.cat.snaps snaps (v.val, x.epoch) (some { x with state := .live, creation := some s.clock.minute }))

/-- R55, every line of its table: what RETIRE SNAPSHOT does with the record it names; and R57 for the merge that begins, with its
target fixed and its cursor at the lowest block. R134: a WAITING roster entry whose target is so retired becomes SKIPPED without
its target, with SNAPSHOT_SKIPPED, reason RETIRED, in the same event. (The model's choice: a merge of a snapshot without
entries stands MERGING until its next step, log entry 15.) -/
def Obligations.RetireSnapshotFollowsTheTable : Prop :=
  ∀ (s : State) (seq : U16) (v epoch : U32) (vol : Volume),
    s.mgmtReady → operable s.mgmt.service = true → v.toNat ≤ 47 → s.volume? v.toNat = some vol →
    let record := s.snap? v.toNat epoch.toNat
    let run := exec (.retireSnapshot seq v epoch) s
    let awaited := (s.roster? v.toNat).any fun r => r.pass = .waiting ∧ r.target = some epoch.toNat
    let retired (snaps : List Snapshot) (volumes : List Volume) : Host.Outcome State Fault Refusal :=
      .next ((({ s.heard with
        cat := { s.cat with snaps := snaps, volumes := volumes }
        sched := { s.sched with roster := if awaited then s.sched.roster.map fun r => if r.volume = v.toNat then
            { r with pass := .skipped, target := none } else r else s.sched.roster } } : State).raiseIf
        (if awaited then some (.snapshotSkipped v.toNat .retired epoch.toNat) else none)).reply seq 25 .accepted 0 .empty)
    (record = none → run = .next (s.heard.reply seq 25 .noSnapshot 0 .empty)) ∧
    (∀ x, record = some x →
      (x.state = .merging → run = .next (s.heard.reply seq 25 .noSnapshot 0 .empty)) ∧
      (x.state = .opening → run = .next (s.heard.reply seq 25 .wrongState 0 .empty)) ∧
      (x.state = .retirePending → run = .next (s.heard.reply seq 25 .accepted 8 .empty)) ∧
      (x.state = .live → (x.holds ≠ [] ∨ s.hasSnap v.toNat .merging = true) →
        ∃ snaps, run = retired snaps s.cat.volumes ∧
          snapsWith s.cat.snaps snaps (v.toNat, epoch.toNat) (some { x with state := .retirePending })) ∧
      (x.state = .live → x.holds = [] → s.hasSnap v.toNat .merging = false →
        ∃ snaps volumes target, run = retired snaps volumes ∧
          snapsWith s.cat.snaps snaps (v.toNat, epoch.toNat) (some { x with state := .merging }) ∧
          volumesWith s.cat.volumes volumes v.toNat
            (some { vol with merge := some { epoch := epoch.toNat, target := target, cursor := 0, freed := 0 } }) ∧
          s.targetIs v.toNat epoch.toNat target))

/-- R51 with R50, and R60: LOOKUP BLOCK as of a LIVE or RETIRE_PENDING snapshot answers from the entry of the block with the
smallest interval at or after the epoch, or LIVE when there is none; LIST SNAPSHOTS gives the volume's link, next epoch,
merge flag, the number in RETIRE_PENDING and every record but the MERGING one, in ascending epoch. Neither changes
anything but the mark and the reply list. (The model's choice: the status OK of what is returned, log entry 40.) -/
def Obligations.CatalogueReadsChangeNothing : Prop :=
  ∀ (s : State) (seq : U16) (v : U32) (vol : Volume),
    s.mgmtReady → s.mgmt.service ≠ .loading → v.toNat ≤ 47 → s.volume? v.toNat = some vol →
    (∀ (block epoch : U32) (x : Snapshot), s.snap? v.toNat epoch.toNat = some x → x.kept →
      let answers (e : Entry) : Prop := e ∈ s.pres.index ∧ e.volume = v.toNat ∧ e.block = block.toNat ∧ epoch.toNat ≤ e.interval
      ((∀ e, ¬answers e) → exec (.lookupBlock seq v block epoch) s = .next (s.heard.reply seq 27 .ok 0 (.lookup .live))) ∧
      (∀ e, answers e → (∀ d, answers d → d = e ∨ e.interval < d.interval) →
        exec (.lookupBlock seq v block epoch) s = .next (s.heard.reply seq 27 .ok 0 (.lookup
          (match e.kind with
            | .slot n o st => .slot n e.interval o st
            | .fresh => .fresh e.interval))))) ∧
    (∃ listed, exec (.listSnapshots seq v) s = .next (s.heard.reply seq 26 .ok 0 (.snapshots
        { link := vol.link, nextEpoch := s.nextEpoch v.toNat, merging := s.hasSnap v.toNat .merging,
          retirePending := listed.countP fun x => x.state = .retirePending, listed := listed })) ∧
      (∀ x, x ∈ listed ↔ x ∈ s.cat.snaps ∧ x.volume = v.toNat ∧ x.state ≠ .merging) ∧
      (s.cat.snaps.Pairwise (fun a b => snapBefore a b = true) → listed.Pairwise (fun a b => a.epoch < b.epoch)))

/-- R57, for the walk's next entry: with no entry of the target for its block it is re-keyed to the target's interval,
keeping the rest; a COPYING entry that would be freed makes the walk wait; any other entry is freed, the slot of a SLOT
entry going to the tail of the free-slot list and its owner's pinned count falling by one. The cursor passes the block. R58:
after the last entry the merge ends in the same event: the record becomes GONE, the merge in progress is removed,
SNAPSHOT_GONE carries the slots freed, and the merge start runs; a walk without entries ends so at once. R56: the merge start
makes the unheld RETIRE_PENDING snapshot of the lowest epoch MERGING, and does nothing beside a MERGING one or with none. R72:
with the changes made, the grace of the entry's owner and the pool warnings are evaluated. R133: a deferred take is made as
the record becomes GONE: it takes its NIGHTLY snapshot, the entry's target, or is refused and the entry SKIPPED, with OPENING
or FULL. Only where a manual TAKE SNAPSHOT of the volume is at hand, the request that the interpreter takes as the next command comes,
may it be left due instead; it is then made as that TAKE is refused, R52, or at the next step. (No restore is STALLED here, and no
restore nor waiting request is on the volume where the NIGHTLY snapshot goes LIVE.) (The model's choice: the evaluations at the end
of the event, the order at the end, which TAKE is at hand and what becomes of a take left due, and a merge without entries that ends
at its next step, log entries 10, 11 and 15.) -/
def Obligations.MergeStepTakesTheNextEntryOrEnds : Prop :=
  (∀ (s : State) (v : Fin 48) (vol : Volume) (m : Merge),
    s.mgmt.service = .serving ∨ s.mgmt.service = .pausing → s.volume? v = some vol → vol.merge = some m →
    (∀ r, s.roster? v = some r → r.deferred = true → r.freed = false) →
    let stays (e : Entry) : Prop := m.target = none ∨ ∃ y, m.target = some y ∧ s.entry? v e.block y ≠ none
    (∀ e, s.nextOfMerge v m e → stays e → e.copying = true → exec (.mergeStep v) s = .next s) ∧
    (∀ (e : Entry) (last : Bool), s.nextOfMerge v m e → s.entry? v e.block m.epoch = some e →
      (last = true ↔ ∀ x ∈ s.unvisited v m, x = e) → (last = true → ∀ r, s.roster? v = some r → r.deferred = false) →
      let after (freed : Nat) : Option Merge :=
        if last then none else some { m with cursor := e.block + 1, freed := m.freed + freed }
      let ended (freed : Nat) (t : State) : State :=
        if last then (t.raise (.snapshotGone v m.epoch (m.freed + freed))).mergeStart v else t
      let counted : Option Snapshot :=
        if last then none else (s.snap? v m.epoch).map fun x => { x with changeCount := x.changeCount - 1 }
      (∀ y, m.target = some y → y ≠ m.epoch → s.entry? v e.block y = none →
        ∃ index snaps volumes, exec (.mergeStep v) s =
            .next (ended 0 { s with
              pres := { s.pres with index := index }
              cat := { s.cat with snaps := snaps, volumes := volumes } }) ∧
          volumesWith s.cat.volumes volumes v.val (some { vol with merge := after 0 }) ∧
          tableAt Entry.key index (v.val, e.block, y) = some { e with interval := y } ∧
          tableAt Entry.key index (v.val, e.block, m.epoch) = none ∧
          (∀ k, k ≠ (v.val, e.block, y) → k ≠ (v.val, e.block, m.epoch) →
            tableAt Entry.key index k = tableAt Entry.key s.pres.index k) ∧
          tableAt Snapshot.name snaps (v.val, y) = (s.snap? v y).map (fun x => { x with changeCount := x.changeCount + 1 }) ∧
          tableAt Snapshot.name snaps (v.val, m.epoch) = counted ∧
          (∀ k, k ≠ (v.val, y) → k ≠ (v.val, m.epoch) → tableAt Snapshot.name snaps k = tableAt Snapshot.name s.cat.snaps k)) ∧
      (∀ n o, stays e → e.kind = .slot n o .settled → (∀ r ∈ s.rest.active, r.state ≠ .stalled) →
        ∃ index owners snaps volumes, exec (.mergeStep v) s =
            .next (((ended 1 { s with
              pres :=
                { s.pres with
                  index := index, indexLow := s.pres.indexLow && decide (8388608 - index.length < 524288)
                  free := s.pres.free ++ [n] }
              quota := { s.quota with owners := owners }
              cat := { s.cat with snaps := snaps, volumes := volumes } }).evalGrace o).evalPool) ∧
          entriesWith s.pres.index index (v.val, e.block, m.epoch) none ∧
          ownersWith s.quota.owners owners o ((s.owner? o).map fun r => { r with pinned := r.pinned - 1 }) ∧
          snapsWith s.cat.snaps snaps (v.val, m.epoch) counted ∧
          volumesWith s.cat.volumes volumes v.val (some { vol with merge := after 1 })) ∧
      (stays e → e.kind = .fresh → (∀ r ∈ s.rest.active, r.state ≠ .stalled) →
        ∃ index snaps volumes, exec (.mergeStep v) s =
            .next ((ended 0 { s with
              pres := { s.pres with index := index, indexLow := s.pres.indexLow && decide (8388608 - index.length < 524288) }
              cat := { s.cat with snaps := snaps, volumes := volumes } }).evalPool) ∧
          entriesWith s.pres.index index (v.val, e.block, m.epoch) none ∧
          snapsWith s.cat.snaps snaps (v.val, m.epoch) counted ∧
          volumesWith s.cat.volumes volumes v.val (some { vol with merge := after 0 }))) ∧
    (s.unvisited v m = [] →
      ∃ snaps volumes,
        let gone := State.mergeStart v (({ s with cat := { s.cat with snaps := snaps, volumes := volumes } } : State).raise
          (.snapshotGone v m.epoch m.freed))
        let due (choices : Nat) : State := { gone with
          choices := choices
          sched := { gone.sched with roster := gone.sched.roster.map fun r =>
            if r.volume = v.val then { r with freed := true } else r } }
        ((∀ r, s.roster? v = some r → r.deferred = false) → exec (.mergeStep v) s = .next gone) ∧
        (let atHand : Prop := ∃ (u : U32) (label : Option (List Byte)) (rest : List Instr), u.toNat = v.val ∧
           ((s.mgmtReady ∧ ∃ seq, s.pending = .takeSnapshot seq u label :: rest) ∨
            (s.mgmtReady ∧ ∃ bytes, s.pending = .mgmtFrameArrival bytes :: rest ∧
              (receive (s.mgmt.begun ++ bytes)).findSome? goodRequest = some (.takeSnapshot u label)) ∨
            (s.mgmt.replies.length = 4 ∧ s.pending = .mgmtSenderFree :: rest ∧
              ∃ seq more, s.mgmt.queue = (seq, .takeSnapshot u label) :: more))
         ∀ r, s.roster? v = some r → r.deferred = true →
           (¬atHand → exec (.mergeStep v) s = exec (.mergeStep v) (due s.choices)) ∧
           (atHand → exec (.mergeStep v) s = if Config.pick s.choices 2 % 2 = 0 then exec (.mergeStep v) (due (s.choices + 1))
             else .next (due (s.choices + 1)))) ∧
        snapsWith s.cat.snaps snaps (v.val, m.epoch) none ∧
        volumesWith s.cat.volumes volumes v.val (some { vol with merge := none }))) ∧
  (∀ (s : State) (v : Fin 48) (r : RosterEntry),
    s.mgmt.service = .serving ∨ s.mgmt.service = .pausing → s.roster? v = some r → r.deferred = true → r.freed = true →
    let run := exec (.mergeStep v) s
    let entry (pass : PassState) (target : Option Nat) : State :=
      { s with sched := { s.sched with roster := s.sched.roster.map fun r => if r.volume = v.val then
          { r with pass := pass, target := target, deferred := false, freed := false } else r } }
    let refused (reason : Status) : Prop := run = .next ((entry .skipped none).raise (.snapshotSkipped v reason 0))
    let e := s.nextEpoch v
    let opened : Snapshot := { s.openedSnapshot v none with kind := .nightly }
    let made (snaps : List Snapshot) : State := { entry r.pass (some e) with cat :=
      { s.cat with snaps := snaps, nextEpoch := s.cat.nextEpoch.set v.val (if e < 4294967295 then e + 1 else 0) } }
    (∀ (seq : U16) (u : U32) (label : Option (List Byte)), u.toNat = v → s.mgmtReady → s.volume? v ≠ none →
      labelOk label = false ∨ s.hasSnap v .opening = true ∨ 24 ≤ (s.snapsOf v).length ∨ 768 ≤ s.cat.snaps.length ∨ e = 0 →
      exec (.takeSnapshot seq u label) s = exec (.mergeStep v) (s.heard.reply seq 24
        (if labelOk label = false then .badField else if s.hasSnap v .opening = true then .busy else .snapshotFull) 0 .empty)) ∧
    ((∀ d ∈ s.sched.roster, d.volume = v → d = r) →
      (s.hasSnap v .opening = true → refused .opening) ∧
      (s.hasSnap v .opening = false → 24 ≤ (s.snapsOf v).length ∨ 768 ≤ s.cat.snaps.length ∨ e = 0 → refused .full) ∧
      (s.hasSnap v .opening = false → (s.snapsOf v).length < 24 → s.cat.snaps.length < 768 → e ≠ 0 → s.snap? v e = none →
        (s.isQuiet v = false → ∃ snaps, run = .next (made snaps) ∧ snapsWith s.cat.snaps snaps (v.val, e) (some opened)) ∧
        (s.isQuiet v = true → (∀ x, s.volume? v = some x → x.waiting = []) → (∀ a ∈ s.rest.active, a.fenceVolume ≠ v) →
          ∃ snaps, (let live := (made snaps).raise (.snapshotLive v e .nightly)
              run = .next (if r.pass = .waiting then live.passTest else live)) ∧
            snapsWith s.cat.snaps snaps (v.val, e) (some { opened with state := .live, creation := some s.clock.minute }))))) ∧
  ∀ (s : State) (v : Nat) (vol : Volume), s.volume? v = some vol →
    let may (x : Snapshot) : Prop := x ∈ s.cat.snaps ∧ x.volume = v ∧ x.state = .retirePending ∧ x.holds = []
    (s.hasSnap v .merging = true ∨ (∀ x, ¬may x) → s.mergeStart v = s) ∧
    (∀ x, s.hasSnap v .merging = false → may x → (∀ y, may y → y = x ∨ x.epoch < y.epoch) → s.snap? v x.epoch = some x →
      s.noPassAwaits v x.epoch → ∃ snaps volumes target,
        s.mergeStart v = { s with cat := { s.cat with snaps := snaps, volumes := volumes } } ∧
        snapsWith s.cat.snaps snaps (v, x.epoch) (some { x with state := .merging }) ∧
        volumesWith s.cat.volumes volumes v
          (some { vol with merge := some { epoch := x.epoch, target := target, cursor := 0, freed := 0 } }) ∧
        s.targetIs v x.epoch target)

/-! ### Preservation and the slot pool -/

/-- R48, every line of its table: the current interval of a volume by its newest snapshot, the one of the highest epoch. -/
def Obligations.CurrentIntervalFollowsTheNewestSnapshot : Prop :=
  ∀ (s : State) (v : Nat),
    ((∀ x ∈ s.cat.snaps, x.volume ≠ v) → s.current v = .noSnapshot) ∧
    (∀ x, x ∈ s.cat.snaps → x.volume = v → (∀ y ∈ s.cat.snaps, y.volume = v → y = x ∨ y.epoch < x.epoch) →
      (x.state = .opening → s.current v = .opening) ∧
      (x.kept → s.current v = .interval x.epoch none) ∧
      (∀ vol m, x.state = .merging → s.volume? v = some vol → vol.merge = some m →
        (∀ y, m.target = some y → s.current v = .interval y (some x.epoch)) ∧
        (m.target = none → s.current v = .noTarget)))

/-- R68 and R69: the evaluation of the warning marks. Below-low is set exactly while the free count is below the low mark, and
empty while the pool size is above 0 and the free count 0; a mark that becomes set raises its notice, POOL_LOW before
POOL_EMPTY. The rescue timer starts from the rescue minutes as below-low becomes set, while they are above 0, and stops as
it becomes clear. -/
def Obligations.PoolWarningsFollowTheFreeCount : Prop :=
  ∀ s : State,
    let free := s.pres.free.length
    let low := decide (free < s.pres.lowMark)
    let none' := decide (0 < s.pres.poolSize ∧ free = 0)
    let timer := if s.pres.belowLow = false ∧ low = true then
        (if 0 < s.pres.rescueMinutes then some s.pres.rescueMinutes else none)
      else if low = true then s.pres.rescueTimer else none
    s.evalPool =
      { (s.raiseIf (if s.pres.belowLow = false ∧ low = true then some (.poolLow free s.pres.lowMark) else none)).raiseIf
          (if s.pres.empty = false ∧ none' = true then some (.poolEmpty s.pres.quarantine.length s.pres.poolSize) else none)
        with pres := { s.pres with belowLow := low, empty := none', rescueTimer := timer } }

/-- R67 and R71: SET POOL applies its fields whole, each present one in its range, with the defaults of the absent ones and the
flag CLAMPED, and replies with the values in force; a size fills the free-slot list with the slots 0 to size minus 1.
CLEAR QUARANTINE moves the quarantined slots to the tail of the free-slot list in their order. Both evaluate the pool
warnings. R114: SET POOL makes no STALLED restore retry, nor does a CLEAR QUARANTINE of an empty list. (No restore is STALLED
where slots are moved here, so no retry follows.) -/
def Obligations.PoolRequestsAreAppliedWhole : Prop :=
  ∀ (s : State) (seq : U16), s.mgmtReady →
    (∀ (q : SetPoolReq), s.mgmt.service ≠ .saving → s.mgmt.service ≠ .loading →
      (∀ n, q.size = some n → n.toNat ≤ 8388608 ∧
        (s.mgmt.service = .starting ∨ s.mgmt.service = .paused ∧ ∀ e ∈ s.pres.index, e.slot? = none)) →
      let size := match q.size with | some n => n.toNat | none => s.pres.poolSize
      let low := match q.lowMark, q.size with
        | some m, _ => m.toNat
        | none, some n => n.toNat / 16
        | none, none => s.pres.lowMark
      let free := match q.size with | some n => List.range n.toNat | none => s.pres.free
      let quarantine := match q.size with | some _ => [] | none => s.pres.quarantine
      let rescue := match q.rescue with | some m => min m.toNat 1440 | none => s.pres.rescueMinutes
      let timer := if rescue = s.pres.rescueMinutes then s.pres.rescueTimer else if 0 < rescue then some rescue else none
      let clamped := decide (size < low) || q.rescue.any fun m => decide (1440 < m.toNat)
      exec (.setPool seq q) s =
        .next ((({ s.heard with pres :=
            { s.pres with
              poolSize := size, lowMark := min low size, free := free, quarantine := quarantine, rescueMinutes := rescue
              rescueTimer := timer } } : State).evalPool).reply seq 28 .ok (if clamped then 1 else 0)
            (.pool size (min low size) rescue free.length))) ∧
    (configurable s.mgmt.service = true → (s.pres.quarantine = [] ∨ ∀ r ∈ s.rest.active, r.state ≠ .stalled) →
      exec (.clearQuarantine seq) s =
      .next ((({ s.heard with pres := { s.pres with free := s.pres.free ++ s.pres.quarantine, quarantine := [] } }
        : State).evalPool).reply seq 29 .ok 0
          (.moved s.pres.quarantine.length (s.pres.free ++ s.pres.quarantine).length)))

/-- R77 with R72, R74 and R6: a PRESERVE of kind OCCUPIED, in SERVING, that passes the checks of R73 and R75 and of whose
blocks at least one is new. Each new block takes a slot from the head of the free-slot list, in ascending order, in a
COPYING entry of the current interval; its copy joins the tail of the preservation queue; the owner's pinned count and the
interval's change count rise by the number of new blocks; an owner with no record gets one from the first row that matches
the owner number, the volume and an empty tag set; a pending preservation is made, which waits for its copies, for the
already blocks still COPYING and for the live reads of its blocks; no reply is sent, and the mover tests for grants at the
end of the event. R65: INDEX_LOW is raised, with the free count and the volume, by the entry that brings the free count below
524,288, unless it has been raised since the count last stood there. (The model's choice: an already block of the merging
interval, and the places of the evaluations, log entries 9 and 10.) -/
def Obligations.PreserveTakesASlotForEachNewBlock : Prop :=
  ∀ (s : State) (l : Link) (seq : U16) (q : PreserveReq) (vol : Volume) (interval : Nat) (m : Option Nat) (r : OwnerRecord),
    let v := q.volume.toNat
    let first := q.first.toNat
    let n := q.count.toNat
    let owner := q.owner.toNat
    let new := s.newBlocks v first n (.interval interval m)
    let k := new.length
    let fits (i : Fin 24) (row : PolicyRow) : Prop := s.quota.policy[i] = some row ∧ row.matches owner v 0 = true
    s.linkReady l → s.mgmt.service = .serving → s.copyingPreserves l < 4 →
    1 ≤ n → n ≤ 64 → first + n - 1 ≤ 4294967295 → q.intent ≠ none → q.kind = some .occupied → owner ≤ 16777215 →
    s.volume? v = some vol → vol.link = l → vol.waiting = [] → s.current v = .interval interval m →
    s.fencedRange v first n = false → 1 ≤ k →
    k ≤ s.indexFree → k ≤ s.pres.free.length →
    (s.owner? owner = some r ∨ (s.owner? owner = none ∧ s.quota.owners.length < 16384 ∧
      ∃ i row, fits i row ∧ (∀ j, j < i → ∀ other, ¬fits j other) ∧ r =
        { owner := owner, cls := row.cls, hard := row.hard, soft := row.soft, held := 0, reserved := 0, pinned := 0,
          share := row.share, overdraft := row.overdraft, overTags := row.overTags, grace := .within, origin := .row i.val })) →
    let low := decide (s.indexFree < 524288 + k)
    ∃ index owners snaps, exec (.preserve l seq q) s =
        .next (((State.raiseIf (if low = true ∧ s.pres.indexLow = false then some (.indexLow (min s.indexFree 524288 - 1) v) else none)
          { s.heardOn l with
          pres :=
            { s.pres with
              index := index, indexLow := s.pres.indexLow || low, free := s.pres.free.drop k
              pendings := s.pres.pendings ++
                [{ who := .link l seq, counted := true, volume := v, first := first, count := n, newCount := k,
                   alreadyCount := n - k, own := new.zip s.pres.free,
                   waitsOn := s.copyingBlocks v first n (.interval interval m), faulted := [], gate := s.gateOf v first n }] }
          quota := { s.quota with owners := owners }
          cat := { s.cat with snaps := snaps }
          mover :=
            { s.mover with preservationQ := s.mover.preservationQ ++ (new.zip s.pres.free).map (fun x =>
                { op := .read, area := .volume v, address := x.1, length := 1, thenWrite := some (.pool, x.2),
                  client := .preservation none }) } } |>.evalGrace owner).evalPool).moverEnd) ∧
      (∀ b slot, (b, slot) ∈ new.zip s.pres.free → tableAt Entry.key index (v, b, interval) =
        some { volume := v, block := b, interval := interval, kind := .slot slot owner .copying }) ∧
      (∀ key, (∀ b ∈ new, key ≠ (v, b, interval)) → tableAt Entry.key index key = tableAt Entry.key s.pres.index key) ∧
      ownersWith s.quota.owners owners owner (some { r with pinned := r.pinned + k }) ∧
      snapsWith s.cat.snaps snaps (v, interval)
        ((s.snap? v interval).map fun x => { x with changeCount := x.changeCount + k })

/-- R73 to R76 with R6: the PRESERVEs that take no slot, in SERVING. The checks of R73 refuse in order; the capacity checks
of R75 refuse the whole request, new blocks beside already ones or not, and so does the owner search, UNKNOWN_OWNER or
OWNER_TABLE_FULL. A request of kind FRESH makes a FRESH entry for each new block, with the counts of R72; it, and one of
either kind with no new blocks, is PRESERVED at once while no live read of its blocks is outstanding and no already block
is COPYING, and otherwise becomes a pending preservation that makes no copy and does not count for its link; its
entries raise INDEX_LOW as R65 says. (The model's choice: an already block of the merging interval, log entry 9, and the volume
and first block that a NOT_NEEDED reply keeps, log entry 64.) -/
def Obligations.PreserveIsAnsweredAtOnce : Prop :=
  ∀ (s : State) (l : Link) (seq : U16) (q : PreserveReq),
    let v := q.volume.toNat
    let first := q.first.toNat
    let n := q.count.toNat
    let owner := q.owner.toNat
    let fits (i : Fin 24) (row : PolicyRow) : Prop := s.quota.policy[i] = some row ∧ row.matches owner v 0 = true
    let answers (x : ServerReply) : Prop := exec (.preserve l seq q) s = .next ((s.heardOn l).answer l seq x)
    let refused (st : Status) : Prop := answers (.preserve st 0 0 0 0 0 0 [])
    s.linkReady l → s.mgmt.service = .serving → s.copyingPreserves l < 4 →
    (n = 0 ∨ 64 < n ∨ 4294967295 < first + n - 1 ∨ q.intent = none ∨ q.kind = none ∨
      (q.kind = some .occupied ∧ 16777215 < owner) ∨ (q.kind = some .fresh ∧ q.intent = some .free) →
      refused .badField) ∧
    (∀ kind intent, 1 ≤ n → n ≤ 64 → first + n - 1 ≤ 4294967295 → q.intent = some intent → q.kind = some kind →
      (kind = .occupied → owner ≤ 16777215) → (kind = .fresh → intent = .write) →
      (s.volume? v = none → refused .unknownVolume) ∧
      (∀ vol, s.volume? v = some vol →
        (vol.link ≠ l → refused .wrongLink) ∧
        (vol.link = l → s.current v = .noSnapshot → answers (.preserve .notNeeded v first 0 0 0 0 [])) ∧
        (vol.link = l → vol.waiting = [] → s.current v = .noTarget → answers (.preserve .notNeeded v first 0 0 0 0 [])) ∧
        (∀ interval m, vol.link = l → vol.waiting = [] → s.current v = .interval interval m →
          let new := s.newBlocks v first n (.interval interval m)
          let waitsOn := s.copyingBlocks v first n (.interval interval m)
          let gate := s.gateOf v first n
          let k := new.length
          (s.fencedRange v first n = true → refused .fenced) ∧
          (s.fencedRange v first n = false →
            (s.indexFree < k → answers (.preserve .indexFull 0 0 0 0 k s.indexFree [])) ∧
            (k ≤ s.indexFree → kind = .occupied →
              (s.pres.free.length < k → answers (.preserve .poolEmpty 0 0 0 0 k s.pres.free.length [])) ∧
              (k ≤ s.pres.free.length → 1 ≤ k → s.owner? owner = none →
                ((∀ i row, ¬fits i row) → refused .unknownOwner) ∧
                ((∃ i row, fits i row) → 16384 ≤ s.quota.owners.length → refused .ownerTableFull))) ∧
            (k ≤ s.indexFree → (kind = .fresh ∨ k = 0) → ∃ index snaps,
              let low := decide (0 < k ∧ s.indexFree < 524288 + k)
              let made : State :=
                State.raiseIf (if low = true ∧ s.pres.indexLow = false then some (.indexLow (min s.indexFree 524288 - 1) v) else none)
                  { s.heardOn l with pres := { s.pres with index := index, indexLow := s.pres.indexLow || low }
                                     cat := { s.cat with snaps := snaps } }
              (gate = [] → waitsOn = [] → exec (.preserve l seq q) s =
                .next (made.answer l seq (.preserve .preserved v first k (n - k) 0 0 []))) ∧
              (gate ≠ [] ∨ waitsOn ≠ [] → exec (.preserve l seq q) s = .next { made with pres := { made.pres with
                pendings := s.pres.pendings ++
                  [{ who := .link l seq, counted := false, volume := v, first := first, count := n, newCount := k,
                     alreadyCount := n - k, own := [], waitsOn := waitsOn, faulted := [], gate := gate }] } }) ∧
              (∀ b ∈ new, tableAt Entry.key index (v, b, interval) =
                some { volume := v, block := b, interval := interval, kind := .fresh }) ∧
              (∀ key, (∀ b ∈ new, key ≠ (v, b, interval)) →
                tableAt Entry.key index key = tableAt Entry.key s.pres.index key) ∧
              snapsWith s.cat.snaps snaps (v, interval)
                ((s.snap? v interval).map fun x => { x with changeCount := x.changeCount + k }))))))

/-- R54 and R78 with R163: in SERVING, a PRESERVE on a volume whose newest snapshot is OPENING, or whose waiting list is not
empty after the snapshot has gone LIVE, joins the tail of the list, and is answered BUSY when it holds 64; one from a link
with 4 copying preserves is held at the intake's head. The list is handed back from its head, request by request, each taken as
a fresh arrival, while the part is SERVING, no snapshot of the volume is OPENING and the head's link has fewer than 4 copying
preserves: as the snapshot goes LIVE a list of one leaves the part as that arrival would. As a link's copying count falls below
4, its held head and the lists whose head is its own are ready: nothing is taken where none is, the one where one is, and
otherwise one of them, of which no rule says which. (No restore is on the volume that goes LIVE, and no roster entry waits for
it.) (The model's choice: the value that stands for that freedom and the order of the tasks, log entries 6, 7 and 49.) -/
def Obligations.PreserveWaits : Prop :=
  (∀ (s : State) (l : Link) (seq : U16) (q : PreserveReq), s.linkReady l → s.mgmt.service = .serving →
    (∀ vol, s.copyingPreserves l < 4 → preserveFieldsOk q = true → s.volume? q.volume.toNat = some vol → vol.link = l →
      s.current q.volume.toNat = .opening ∨ (s.current q.volume.toNat ≠ .noSnapshot ∧ vol.waiting ≠ []) →
      (vol.waiting.length < 64 → ∃ volumes, exec (.preserve l seq q) s =
          .next { s.heardOn l with cat := { s.cat with volumes := volumes } } ∧
        volumesWith s.cat.volumes volumes q.volume.toNat
          (some { vol with waiting := vol.waiting ++ [{ link := l, seq := seq, req := q }] })) ∧
      (64 ≤ vol.waiting.length → exec (.preserve l seq q) s =
        .next ((s.heardOn l).answer l seq (.preserve .busy q.volume.toNat q.first.toNat 0 0 0 0 [])))) ∧
    (4 ≤ s.copyingPreserves l → exec (.preserve l seq q) s =
      .next (s.onLink l fun i => { i with mark := .none, queue := [(seq, .preserve q)], held := true }))) ∧
  (∀ (s : State) (v : Fin 48) (vol : Volume) (x : Snapshot), s.isQuiet v = true →
    (s.snapsOf v).find? (fun x => x.state = .opening) = some x → s.snap? v x.epoch = some x →
    (∀ y ∈ s.cat.snaps, y.volume = v → y.state = .opening → y = x) → s.volume? v = some vol →
    (∀ r ∈ s.rest.active, r.fenceVolume ≠ v) → s.noPassAwaits v x.epoch → ∃ snaps,
      snapsWith s.cat.snaps snaps (v.val, x.epoch) (some { x with state := .live, creation := some s.clock.minute }) ∧
      let live : State := State.raise (.snapshotLive v x.epoch x.kind) { s with cat := { s.cat with snaps := snaps } }
      ((s.mgmt.service ≠ .serving ∨ vol.waiting = [] ∨ ∃ h rest, vol.waiting = h :: rest ∧ 4 ≤ s.copyingPreserves h.link) →
        exec (.goLive v) s = .next live) ∧
      (∀ h, s.mgmt.service = .serving → vol.waiting = [h] → s.copyingPreserves h.link < 4 → s.intake h.link =
          { queue := [], held := false, mark := .none, begun := (s.intake h.link).begun } →
        exec (.goLive v) s = exec (.preserve h.link h.seq h.req) { live with cat :=
          { live.cat with volumes := s.cat.volumes.map fun e => if e.volume = v.val then { e with waiting := e.waiting.tail } else e } })) ∧
  (∀ (w : Work) (v : Nat),
    let s := w.st
    let taken (x : Waiting) : Work := takePreserve true x.link x.seq x.req
      { w with st := { s with cat := { s.cat with volumes := s.cat.volumes.map fun e =>
          if e.volume = v then { e with waiting := e.waiting.tail } else e } } }
    (∀ x, s.handable v = some x ↔ s.mgmt.service = .serving ∧ s.hasSnap v .opening = false ∧ s.copyingPreserves x.link < 4 ∧
      ∃ vol rest, s.volume? v = some vol ∧ vol.waiting = x :: rest) ∧
    (s.handable v = none → handOne v w = w ∧ takeHandBack v w = w) ∧
    (∀ x, s.handable v = some x → handOne v w = taken x ∧ takeHandBack v w = (taken x).push [.handBack v])) ∧
  ∀ (w : Work) (l : Link),
    let s := w.st
    let held : Prop := (s.intake l).held = true
    let ready (v : Nat) : Prop := (∃ e ∈ s.cat.volumes, e.volume = v) ∧ ∃ x, s.handable v = some x ∧ x.link = l
    let goesOn (v : Nat) (u : Work) : Work := (handOne v u).push [.linkFall l, .handBack v]
    let chosen : Work := { w with st := { s with choices := s.choices + 1 } }
    let run := takeLinkFall l w
    (s.mgmt.service ≠ .serving ∨ 4 ≤ s.copyingPreserves l ∨ (¬held ∧ ∀ v, ¬ready v) → run = w) ∧
    (s.mgmt.service = .serving → s.copyingPreserves l < 4 → (s.cat.volumes.map (·.volume)).Nodup →
      (held → (∀ v, ¬ready v) → run = w.push [.intake l, .linkFall l]) ∧
      (∀ v, ¬held → ready v → (∀ u, ready u → u = v) → run = goesOn v w) ∧
      (∀ v, ready v → held ∨ (∃ u, ready u ∧ u ≠ v) →
        (held ∧ run = chosen.push [.intake l, .linkFall l]) ∨ ∃ u, ready u ∧ run = goesOn u chosen))

/-- R70: when the rescue timer has run out while below-low is set, in SERVING or PAUSING: of the NIGHTLY, LIVE, unheld
snapshots whose volume has none MERGING, the one of the earliest creation minute, at equal minutes on the lower volume, is
retired as R55 says, with RESCUE_RETIRE; with none, RESCUE_RETIRE names no volume; the timer starts again. A timer not run
out does nothing. (The model's choice: the expiry as a command that does nothing before it is due, log entry 4.) -/
def Obligations.RescueRetiresTheOldestNightly : Prop :=
  ∀ s : State,
    let fits (x : Snapshot) : Prop := x ∈ s.cat.snaps ∧ x.kind = .nightly ∧ x.state = .live ∧ x.holds = [] ∧
      s.hasSnap x.volume .merging = false
    let again (t : State) : State := { t with pres := { s.pres with rescueTimer := some s.pres.rescueMinutes } }
    (s.pres.rescueTimer ≠ some 0 → exec .rescueExpiry s = .next s) ∧
    (s.pres.rescueTimer = some 0 → s.pres.belowLow = true → (s.mgmt.service = .serving ∨ s.mgmt.service = .pausing) →
      ((∀ x, ¬fits x) → exec .rescueExpiry s = .next (again (s.raise (.rescueRetire none 0 s.pres.free.length)))) ∧
      (∀ x, fits x → (∀ y, fits y → y = x ∨ x.creation.getD 0 < y.creation.getD 0 ∨
          (x.creation.getD 0 = y.creation.getD 0 ∧ x.volume < y.volume)) →
        s.cat.snaps.Pairwise (fun a b => snapBefore a b = true) →
        exec .rescueExpiry s = .next (again ((s.retire x.volume x.epoch).raise
          (.rescueRetire (some x.volume) x.epoch s.pres.free.length)))))

/-! ### The mover and the store channel -/

/-- R93 to R95, R97 and R98 with R88: what the arbiter grants next, and what a grant does. In OPEN and DRAINING: the head of
the preservation queue while PRESERVATION holds fewer than 24 tags; otherwise, of a restore and the duplication queue both
waiting, by the rotation while the window is open, three grants to duplication and one to a restore, and the restore while it
is closed; otherwise whichever waits. In DRAINED: SERVICE operations alone, in queue order. While a restore's queue holds an
operation a restore waits: the one of the lowest id above the restore last granted, or else the lowest of all; the grant takes
its queue's head and makes it the one last granted. An operation is issued on the lowest-numbered free tag: its request frame
goes with the store sequence counter's number, which the phase records as its sent sequence beside the full store timeout; a
WRITE of SERVICE carries the content of that moment. Tags are granted in turn until none is free or nothing may be granted. A
drain whose end is found then leaves the mover DRAINED, the service state PAUSED if it was PAUSING, and the SERVICE operations
that waited granted. -/
def Obligations.ArbiterGrantsInOrder : Prop :=
  (∀ (m : Mover) (windowOpen : Bool),
    let wins (q : RestoreQueue) : Prop := m.nextRestore = some q
    (m.mode = .drained → m.serviceQ = [] → m.grant windowOpen = none) ∧
    (∀ op rest, m.mode = .drained → m.serviceQ = op :: rest → m.grant windowOpen = some (op, { m with serviceQ := rest })) ∧
    (∀ op rest, m.mode ≠ .drained → m.preservationQ = op :: rest → m.tagsHeld Client.isPreservation < 24 →
      m.grant windowOpen = some (op, { m with preservationQ := rest })) ∧
    (m.mode ≠ .drained → (m.preservationQ = [] ∨ 24 ≤ m.tagsHeld Client.isPreservation) →
      (m.nextRestore = none → m.duplicationQ = [] → m.grant windowOpen = none) ∧
      (∀ d rest, m.nextRestore = none → m.duplicationQ = d :: rest →
        m.grant windowOpen = some (d, { m with duplicationQ := rest })) ∧
      (∀ q op ops, wins q → q.ops = op :: ops → m.duplicationQ = [] → m.grant windowOpen = some (op, m.popRestore q.id)) ∧
      (∀ q op ops d rest, wins q → q.ops = op :: ops → m.duplicationQ = d :: rest →
        m.grant windowOpen =
          if windowOpen = false then some (op, m.popRestore q.id)
          else if m.rotation = 3 then some (op, { m.popRestore q.id with rotation := 0 })
          else some (d, { m with duplicationQ := rest, rotation := m.rotation + 1 }))) ∧
    (∀ q, wins q → q ∈ m.restoreQs ∧ q.ops ≠ [] ∧
      ((∃ x ∈ m.restoreQs, x.ops ≠ [] ∧ m.lastRestore < x.id) → m.lastRestore < q.id ∧
        ∀ x ∈ m.restoreQs, x.ops ≠ [] → m.lastRestore < x.id → q.id ≤ x.id) ∧
      ((∀ x ∈ m.restoreQs, x.ops ≠ [] → x.id ≤ m.lastRestore) → ∀ x ∈ m.restoreQs, x.ops ≠ [] → q.id ≤ x.id)) ∧
    ((∃ x ∈ m.restoreQs, x.ops ≠ []) → m.nextRestore ≠ none) ∧
    (∀ id, m.popRestore id =
      { m with
        lastRestore := id
        restoreQs := m.restoreQs.map fun x => if x.id = id then { x with ops := x.ops.drop 1 } else x })) ∧
  (∀ m : Mover,
    (∀ t, m.freeTag? = some t ↔ m.tag t = none ∧ ∀ u, u < t → m.tag u ≠ none) ∧
    (m.freeTag? = none ↔ ∀ t, m.tag t ≠ none)) ∧
  (∀ (s : State) (t : Fin 32) (op : StoreOp) (content : List Byte),
    (op.op = .write ∧ op.client = .service → content = s.serviceContent op.address op.length) →
    (¬(op.op = .write ∧ op.client = .service) → content = []) →
    s.issue t op =
      { s with
        sent := s.sent ++ [.store s.mover.storeSeq
          { tag := t, op := op.op, area := op.area, address := op.address, length := op.length, content := content }]
        mover :=
          { s.mover with
            storeSeq := s.mover.storeSeq + 1
            tags := s.mover.tags.set t (some
              { op := op, phase := .first, sentSeq := s.mover.storeSeq, remaining := s.timers.storeTimeout })
            liveReads := s.mover.liveReads.map fun x =>
              if op.client = .duplication x.read then { x with tag := some t } else x } }) ∧
  (∀ (s : State) (n : Nat),
    (s.mover.freeTag? = none ∨ s.mover.grant s.sched.windowOpen = none → State.grants n s = s) ∧
    (∀ t op m, s.mover.freeTag? = some t → s.mover.grant s.sched.windowOpen = some (op, m) →
      State.grants (n + 1) s = State.grants n (State.issue t op { s with mover := m }))) ∧
  ∀ s : State,
    let g := State.grants 32 s
    let ended : Prop := g.mover.mode = .draining ∧ (∀ t, g.mover.tag t = none) ∧ g.mover.preservationQ = [] ∧
      (∀ q ∈ g.mover.restoreQs, q.ops = []) ∧ g.mover.duplicationQ = []
    let d := State.grants 32 { g with mover := { g.mover with mode := .drained } }
    (g.mover.freeTag? = none ∨ g.mover.grant g.sched.windowOpen = none) ∧
    (¬ended → s.moverEnd = g) ∧
    (ended → s.moverEnd =
      if s.mgmt.service = .pausing then
        ({ d with mgmt := { d.mgmt with service := .paused } } : State).raise (.serviceChanged .pausing .paused .drain)
      else d)

/-- R90: a DATA of the right length that answers the READ of a copy has the mover issue the copy's WRITE with that content on
the same tag, in the same event, with a new sent sequence and the full store timeout; nothing else changes. -/
def Obligations.CopyReadIsFollowedByItsWrite : Prop :=
  ∀ (s : State) (tag : Byte) (seq : U16) (content : List Byte) (t : Fin 32) (i : Issued) (area : Area) (address : Nat),
    s.answersPhase tag seq t i → i.phase = .first → i.op.op = .read → i.op.length = 1 → i.op.thenWrite = some (area, address) →
    (∀ r, i.op.client ≠ .duplication r) → content.length = 4096 →
    exec (.storeData tag seq content) s = .next
      { s with
        sent := s.sent ++ [.store s.mover.storeSeq
          { tag := t, op := .write, area := area, address := address, length := 1, content := content }]
        mover :=
          { s.mover with
            storeSeq := s.mover.storeSeq + 1
            tags := s.mover.tags.set t (some
              { op := i.op, phase := .copyWrite, sentSeq := s.mover.storeSeq, remaining := s.timers.storeTimeout }) } }

/-- R79 and R81: a DONE that answers the WRITE of a preservation copy frees its tag; the entry it filled settles, the slot
leaves the lists of the pending preservations, and those that wait for nothing more are answered, in the order they were
made. The mover tests for grants. (Nothing else waits in other blocks here.) R82 with R111 and R112: a pending preservation
of a restore in COPYING, which waits for nothing more, is removed, the preserved count rises by its new count, and in the
same event the restore hands over the block's operation: a copy from the slot found at the block's start, or a FREE, at the
tail of its queue. (No block is left for its walk here.) (The model's choice: the order of the effects of an answer and of
the replies, log entries 8 and 41.) -/
def Obligations.CopyDoneSettlesAndAnswers : Prop :=
  (∀ (s : State) (tag : Byte) (seq : U16) (t : Fin 32) (i : Issued) (slot id b : Nat) (who : Option Nat) (e : Entry)
      (p : PendingPreserve) (r : Restore) (found : Option Nat),
    s.answersPhase tag seq t i → i.phase = .copyWrite → i.op.thenWrite = some (.pool, slot) → i.op.client = .preservation who →
    s.copyingEntry slot = some e → s.offsite.pass = none → (∀ x ∈ s.cat.snaps, x.state ≠ .opening) →
    s.pres.pendings = [p] → p.who = .restore id → p.faulted = [] → (p.without slot).complete = true →
    s.rest.active = [r] → r.id = id → r.state = .copying → (∀ c, r.cursor = some c → r.first + r.count ≤ c) →
    r.first ≤ b → p.first = r.fenceFirst + (b - r.first) → r.inProgress = [(b, .preserving found)] →
    exec (.storeDone tag seq) s = .next (State.moverEnd
      { s with
        pres :=
          { s.pres with
            index := s.pres.index.map fun x => if x.copying ∧ x.slot? = some slot then x.settle else x
            pendings := [] }
        rest := { s.rest with active :=
          [{ r with preserved := r.preserved + p.newCount
                    inProgress := [(b, if found = none then .freeing else .writing)] }] }
        mover :=
          { s.mover with
            tags := s.mover.tags.set t none
            restoreQs := s.mover.restoreQs.map fun x => if x.id = id then { x with ops := x.ops ++
              [match found with
                | some k => { op := .read, area := .pool, address := k, length := 1,
                              thenWrite := some (.volume r.fenceVolume, p.first), client := .restore id b }
                | none => { op := .free, area := .volume r.fenceVolume, address := p.first, length := 1, thenWrite := none,
                            client := .restore id b }] } else x } })) ∧
  ∀ (s : State) (tag : Byte) (seq : U16) (t : Fin 32) (i : Issued) (slot : Nat) (who : Option Nat) (e : Entry),
    s.answersPhase tag seq t i → i.phase = .copyWrite → i.op.thenWrite = some (.pool, slot) → i.op.client = .preservation who →
    s.copyingEntry slot = some e → s.calm → (∀ p ∈ s.pres.pendings, p.who.restoreId = none) →
    let waiting := s.pres.pendings.map (PendingPreserve.without slot)
    exec (.storeDone tag seq) s = .next (State.moverEnd
      { s with
        mover := { s.mover with tags := s.mover.tags.set t none }
        pres :=
          { s.pres with
            index := s.pres.index.map fun x => if x.copying ∧ x.slot? = some slot then x.settle else x
            pendings := waiting.filter fun p => !p.complete }
        sent := s.sent ++ (waiting.filter PendingPreserve.complete).filterMap PendingPreserve.sentReply })

/-- R80 with R72, R91 and R92: a FAULT, or the end of the store timeout, of either phase of a preservation copy frees its
tag and raises STORE_FAULT for that phase; the entry is removed, its slot going to the tail of the free-slot list after a
READ fault and of the quarantine list after a WRITE fault; its owner's pinned count and its interval's change count fall
by one, with the evaluations of grace and of the pool warnings; the block joins the faulted blocks of the pending
preservations that counted on it, and those that wait for nothing more are answered. (The model's choice: the order of the
effects, the single evaluations, the timeout as a command that does nothing before it is due, the order of the replies, and the
operation READ that STORE_FAULT names for a copy's WRITE, log entries 4, 8, 10, 41 and 54.) -/
def Obligations.CopyFaultRemovesTheEntry : Prop :=
  ∀ (s : State) (t : Fin 32) (i : Issued) (slot v : Nat) (o : Nat) (who : Option Nat) (e : Entry),
    s.mover.tag t = some i → i.op.thenWrite = some (.pool, slot) → i.op.client = .preservation who → i.op.op = .read →
    i.op.area = .volume v → s.copyingEntry slot = some e → s.entry? e.volume e.block e.interval = some e →
    e.owner? = some o → s.calm →
    (∀ p ∈ s.pres.pendings, p.who.restoreId = none) →
    let waiting := s.pres.pendings.map fun p => (p.fault slot).without slot
    let left (cause : FaultCause) (index : List Entry) (owners : List OwnerRecord) (snaps : List Snapshot) : State :=
      State.moverEnd (State.evalPool (State.evalGrace o (State.raise
        (match i.phase with
          | .first => .storeFault (.volume v) i.op.address .read .first i.op.client cause
          | .copyWrite => .storeFault .pool slot .read .copyWrite i.op.client cause)
        { s with
          mover := { s.mover with tags := s.mover.tags.set t none }
          pres :=
            { s.pres with
              index := index, indexLow := s.pres.indexLow && decide (8388608 - index.length < 524288)
              free := s.pres.free ++ (if i.phase = .first then [slot] else [])
              quarantine := s.pres.quarantine ++ (if i.phase = .first then [] else [slot])
              pendings := waiting.filter fun p => !p.complete }
          quota := { s.quota with owners := owners }
          cat := { s.cat with snaps := snaps }
          sent := s.sent ++ (waiting.filter PendingPreserve.complete).filterMap PendingPreserve.sentReply })))
    ∃ index owners snaps,
      (∀ tag seq reason, s.answersPhase tag seq t i →
        exec (.storeFault tag seq reason) s = .next (left (.array reason) index owners snaps)) ∧
      (i.remaining = 0 → exec (.storeTimeout t) s = .next (left .timeout index owners snaps)) ∧
      (0 < i.remaining → exec (.storeTimeout t) s = .next s) ∧
      entriesWith s.pres.index index e.key none ∧
      ownersWith s.quota.owners owners o ((s.owner? o).map fun r => { r with pinned := r.pinned - 1 }) ∧
      snapsWith s.cat.snaps snaps (e.volume, e.interval)
        ((s.snap? e.volume e.interval).map fun x => { x with changeCount := x.changeCount - 1 })

/-- R89, R156 and R186: a reply of the array that matches no issued phase changes nothing; neither does what the receiver of
the store channel or of the offsite link finds in the bytes that arrive, after those of a frame begun before, while each
frame found has a bad check, a bad length or no kind that the array, or the partner, sends: it is discarded, and the
receiver keeps what has begun and not ended. (The model's choice: a discard command's bytes judged by the receiver, and a
FAULT with a reason outside its list discarded, log entries 35 and 38.) -/
def Obligations.UselessFramesChangeNothing : Prop :=
  ∀ s : State,
    (∀ tag seq, (∀ t i, ¬s.answersPhase tag seq t i) →
      exec (.storeDone tag seq) s = .next s ∧ (∀ content, exec (.storeData tag seq content) s = .next s) ∧
      (∀ reason, exec (.storeFault tag seq reason) s = .next s)) ∧
    (∀ bytes,
      let stream := s.mover.begun ++ bytes
      (∀ kind seq body, .frame kind seq body ∈ receive stream → storeCommandOf kind seq body = none) →
      exec (.storeFrameDiscard bytes) s = .next { s with mover := { s.mover with begun := begunFrame stream } }) ∧
    (∀ bytes,
      let stream := s.offsite.begun ++ bytes
      (∀ kind seq body, .frame kind seq body ∈ receive stream → offsiteCommandOf kind seq body = none) →
      exec (.offsiteFrameDiscard bytes) s = .next { s with offsite := { s.offsite with begun := begunFrame stream } })

/-! ### The block, its links and its clock -/

/-- A step takes the command at the front of the queue and runs it on the part with the queue's rest; with an empty queue the
part idles (the model's choice, log entry 1). -/
def Obligations.StepTakesTheFront : Prop :=
  (∀ (c : Instr) (rest : List Instr) (s : State), s.pending = c :: rest → step s = exec c { s with pending := rest }) ∧
  (∀ s : State, s.pending = [] → step s = .next s)

/-- What power-on and the reset line leave: STARTING, and every block at the value its chapter gives, or, where none gives one, at
the model's; the first PROBE has gone. (The frames sent before and the queue of commands are the model's own and stay, log entry
28.) (The model's choice: that the notice queue is empty, log entry 56, that the receivers' begun bytes are empty, log entry 34,
that the silence timer is 0, log entry 44, and that no minute advance is due to the cycle counter, log entry 33.) The state after reset meets the invariants: `Bounded`, `OwnersOrdered`, `Accounted`, and
`Sound`, which has them all. -/
def Obligations.PowerOnLeavesTheResetValues : Prop :=
  (State.reset.Bounded ∧ State.reset.OwnersOrdered ∧ State.reset.Accounted ∧ State.reset.Sound) ∧
  ∀ s : State, ∃ t, exec .powerOn s = .next t ∧ exec .resetLine s = .next t ∧
    t = { State.reset with sent := s.sent ++ [.offsite 0 .probe], choices := s.choices, pending := s.pending } ∧
    t.mgmt = { service := .starting, queue := [], replies := [], notices := [], noticeCounter := 0, mark := .none, job := none,
               begun := [] } ∧
    (∀ l : Link, t.intake l = { queue := [], held := false, mark := .none, begun := [] }) ∧
    t.clock = { minute := 0, seconds := 0 } ∧
    t.timers = { claimLifetime := 60, storeTimeout := 5, commitTimeout := 90, silenceTime := 120, stallLimit := 10,
                 faultThreshold := 31 } ∧
    (t.quota.owners = [] ∧ (∀ i : Fin 24, t.quota.policy[i] = none) ∧ t.quota.claims = [] ∧ t.quota.ticketCounter = 1) ∧
    (t.cat.volumes = [] ∧ (∀ v : Fin 48, t.cat.nextEpoch[v] = 1) ∧ t.cat.snaps = []) ∧
    t.pres = { index := [], indexLow := false, poolSize := 0, free := [], quarantine := [], lowMark := 0, rescueMinutes := 15,
               rescueTimer := none, belowLow := false, empty := false, pendings := [] } ∧
    ((∀ i : Fin 32, t.mover.tag i = none) ∧ t.mover.mode = .drained ∧ t.mover.preservationQ = [] ∧ t.mover.restoreQs = [] ∧
      t.mover.duplicationQ = [] ∧ t.mover.serviceQ = [] ∧ t.mover.liveReads = [] ∧ t.mover.begun = []) ∧
    t.rest = { queue := [], active := [], ended := [], idCounter := 1 } ∧
    (t.sched.live = { cycle := 1440, point := 60, window := 90, length := 300, reload := 65286 } ∧ t.sched.next = t.sched.live ∧
      t.sched.nextWritten = false ∧ t.sched.state = .stopped ∧ t.sched.mode = .repeating ∧ t.sched.counter = 0 ∧
      t.sched.windowOpen = false ∧ t.sched.runOpen = false ∧ t.sched.roster = []) ∧
    (t.offsite.pass = none ∧ t.offsite.window = [] ∧ t.offsite.passCounter = 1 ∧ t.offsite.divider = 65286 ∧
      t.offsite.credits = 0 ∧ t.offsite.link = .silent ∧ t.offsite.faultCounter = 0 ∧ t.offsite.probeHistory = [] ∧
      t.offsite.begun = [])

/-- R183 with R32, R69, R91, R114, R125, R141, R147, R156 and R157, and R146: what the two time bases move. The seconds
tick moves the clock and every timer one second or, as the minute count advances, one minute on; what falls due is an
event of its own. An overflow of the pacer loads the divider and gives a SENDING pass a credit, up to 64, and the engine
tests what it may do. (The model's choice: that the tick only counts, the count of advances due and the pacer's overflow
as a command, the answer deadline that stands while a SEALED is held, R179, and the silence timer that stands in SILENT,
log entries 4, 5, 20 and 21.) -/
def Obligations.TimeBasesMoveTheTimers : Prop :=
  ∀ s : State,
    exec .secondsTick s = .next
      { s with
        clock := if s.clock.seconds < 59 then { s.clock with seconds := s.clock.seconds + 1 }
          else { minute := (s.clock.minute + 1) % 4294967296, seconds := 0 }
        quota := { s.quota with claims := s.quota.claims.map fun c => match c.kind with
          | .server l n => { c with kind := .server l (n - 1) }
          | .restore => c }
        mover := { s.mover with tags := s.mover.tags.map (Option.map fun i => { i with remaining := i.remaining - 1 }) }
        offsite :=
          { s.offsite with
            pass := if s.offsite.link = .up ∧ s.offsite.heldSealed = none then
                s.offsite.pass.map fun p => { p with answerDeadline := p.answerDeadline.map (· - 1) } else s.offsite.pass
            window := if s.offsite.link = .up then s.offsite.window.map fun c => match c.state with
                | .sent n => { c with state := .sent (n - 1) }
                | _ => c
              else s.offsite.window
            silence := if s.offsite.link = .silent then s.offsite.silence else s.offsite.silence + 1
            probeTimer := s.offsite.probeTimer - 1 }
        pres := if 59 ≤ s.clock.seconds ∧ (s.mgmt.service = .serving ∨ s.mgmt.service = .pausing) then
            { s.pres with rescueTimer := s.pres.rescueTimer.map (· - 1) } else s.pres
        rest := if 59 ≤ s.clock.seconds ∧ s.mgmt.service = .serving then
            { s.rest with active := s.rest.active.map fun r =>
                if r.state = .stalled then { r with stall := r.stall.map (· - 1) } else r }
          else s.rest
        sched := if 59 ≤ s.clock.seconds ∧ s.sched.state ≠ .stopped ∧ s.mgmt.service ≠ .loading then
            { s.sched with advancesDue := s.sched.advancesDue + 1 } else s.sched } ∧
    exec .pacerOverflow s = .next (State.engineTests
      { s with offsite :=
        { s.offsite with
          divider := s.sched.live.reload
          credits := match s.offsite.pass with
            | some p => if p.phase = .sending then min 64 (s.offsite.credits + 1) else s.offsite.credits
            | none => s.offsite.credits } })

/-- R186 to R188: the frame of a server request, as bytes on its link, does what the request's row does, whatever its
fields (a coded choice outside its list is sent as 255), and wherever it is cut: the receiver takes what comes after a piece
as the rest of the frame. (The model's choice: the request row as a good frame that comes in, and bytes taken one arrival at a
time, those of a frame begun kept, log entries 3 and 34.) -/
def Obligations.ServerFramesAreTheirRequests : Prop :=
  ∀ (s : State) (l : Link) (seq : U16) (r : ServerRequest) (a b : List Byte),
    frameBytes (serverCode r) seq (serverBody r) = a ++ b →
    let arrival := exec (.serverFrameArrival l b) s
    let whole := s.begunOn l []
    ((s.intake l).begun = a → arrival = .next (whole.serverRequest l seq r) ∧
      (∀ q, r = .claim q → arrival = exec (.claim l seq q) whole) ∧
      (∀ q, r = .settle q → arrival = exec (.settle l seq q) whole) ∧
      (∀ q, r = .release q → arrival = exec (.release l seq q) whole) ∧
      (∀ q, r = .preserve q → arrival = exec (.preserve l seq q) whole)) ∧
    ((s.intake l).begun = [] → b ≠ [] → exec (.serverFrameArrival l a) s = .next (s.begunOn l a))

/-- R172, R186 and R187: the frame of a management request, as bytes on the link, does what the request does, wherever it is
cut: for every kind and body of the length its kind lays down, and row by row for the requests that carry no fields. (The
model's choice: the request row as a good frame that comes in, the free places of the fields, and bytes taken one arrival at a
time, those of a frame begun kept, log entries 3, 29 and 34.) -/
def Obligations.ManagementFramesAreTheirRequests : Prop :=
  ∀ (s : State) (seq : U16) (a b : List Byte), s.mgmt.begun = a →
    let arrival := exec (.mgmtFrameArrival b) s
    let whole := s.begunMgmt []
    (∀ (kind : Byte) (body : List Byte) (units : Nat) (q : MgmtRequest), mgmtUnits kind = some units →
      body.length = 8 * units → mgmtRequestOf kind.toNat body = some q → frameBytes kind seq body = a ++ b →
      arrival = .next (whole.request seq q)) ∧
    (let arrives (kind : Byte) (row : Instr) : Prop := frameBytes kind seq [] = a ++ b → arrival = exec row whole
     arrives 29 (.clearQuarantine seq) ∧ arrives 37 (.stopSchedule seq) ∧ arrives 38 (.clearCycle seq) ∧
     arrives 42 (.readSchedule seq) ∧ arrives 43 (.readDuplication seq) ∧ arrives 44 (.openService seq) ∧
     arrives 45 (.pauseService seq) ∧ arrives 46 (.saveTables seq) ∧ arrives 47 (.loadTables seq) ∧
     arrives 48 (.restart seq) ∧ arrives 51 (.readStatus seq))

/-- R161, R172 and R186: what an arrival does. The receiver tests the length field, then the frame check; a frame that has
begun and not ended it keeps, and takes the rest from what follows. The link tests the kind, then the body length; the
first fault sets the mark and nothing else changes. A good frame clears the mark. On a server link it is answered BUSY
when 16 requests wait, joins the queue behind others, or is taken at once. On the management link it joins the request
queue, and waits while the reply list holds 4; at 4 requests it is answered BUSY, or discarded when the reply list holds
8. (The model's choice: bytes taken one arrival at a time and a request taken in the event of its arrival, log entries 3
and 34.) -/
def Obligations.FramesAreTestedOnArrival : Prop :=
  (∀ (units : Nat) (kind : Byte) (seq check : U16) (body : List Byte), 1 ≤ units → units ≤ 32834 → body.length = 8 * units →
    let covered := toBe 2 units ++ [kind] ++ toBe 2 seq.toNat ++ body
    let whole := startMarker :: (covered ++ toBe 2 check.toNat)
    receive whole = [if check = crc covered then .frame kind seq body else .checkFault] ∧ begunFrame whole = [] ∧
    (∀ a b, whole = a ++ b → b ≠ [] → receive a = [] ∧ begunFrame a = a)) ∧
  (∀ units : Nat, units < 65536 → (units = 0 ∨ 32834 < units) →
    receive (startMarker :: toBe 2 units) = [.lengthFault] ∧
    begunFrame (startMarker :: toBe 2 units) = (toBe 2 units).dropWhile (· ≠ startMarker)) ∧
  (∀ before bytes : List Byte, (∀ b ∈ before, b ≠ startMarker) →
    receive (before ++ bytes) = receive bytes ∧ begunFrame (before ++ bytes) = begunFrame bytes) ∧
  (∀ (s : State) (l : Link) (bytes : List Byte),
    let stream := (s.intake l).begun ++ bytes
    let part := s.begunOn l (begunFrame stream)
    let marked (m : FrameMark) : State := part.onLink l fun i => { i with mark := m }
    let run := exec (.serverFrameArrival l bytes) s
    (receive stream = [] → run = .next part) ∧
    (∀ r, receive stream = [r] →
      (r = .lengthFault → run = .next (marked .length)) ∧ (r = .checkFault → run = .next (marked .check)) ∧
      (∀ kind seq body, r = .frame kind seq body →
        (kind ≠ 1 → kind ≠ 2 → kind ≠ 3 → kind ≠ 4 → run = .next (marked .kind)) ∧
        ((kind = 1 ∨ kind = 4) → body.length ≠ 16 → run = .next (marked .length)) ∧
        ((kind = 2 ∨ kind = 3) → body.length ≠ 8 → run = .next (marked .length)) ∧
        (∀ units q, serverUnits kind = some units → body.length = 8 * units → serverRequestOf kind body = some q →
          (16 ≤ (s.intake l).queue.length → run = .next ((marked .none).answer l seq (bareReply q .busy))) ∧
          ((s.intake l).queue ≠ [] → (s.intake l).queue.length < 16 →
            run = .next (part.onLink l fun i => { i with mark := .none, queue := i.queue ++ [(seq, q)] })) ∧
          ((s.intake l).queue = [] → run = .next (part.serverRequest l seq q)))))) ∧
  (∀ (s : State) (bytes : List Byte),
    let stream := s.mgmt.begun ++ bytes
    let part := s.begunMgmt (begunFrame stream)
    let marked (m : FrameMark) : State := { part with mgmt := { part.mgmt with mark := m } }
    let run := exec (.mgmtFrameArrival bytes) s
    (receive stream = [] → run = .next part) ∧
    (∀ r, receive stream = [r] →
      (r = .lengthFault → run = .next (marked .length)) ∧ (r = .checkFault → run = .next (marked .check)) ∧
      (∀ kind seq body, r = .frame kind seq body →
        ((kind.toNat < 16 ∨ 51 < kind.toNat ∨ kind = 31 ∨ kind = 32) → run = .next (marked .kind)) ∧
        (∀ units, mgmtUnits kind = some units → body.length ≠ 8 * units → run = .next (marked .length)) ∧
        (∀ units q, mgmtUnits kind = some units → body.length = 8 * units → mgmtRequestOf kind.toNat body = some q →
          (4 ≤ s.mgmt.queue.length → s.mgmt.replies.length < 8 →
            run = .next (part.heard.reply seq (mgmtCode q) .busy 0 .empty)) ∧
          (4 ≤ s.mgmt.queue.length → 8 ≤ s.mgmt.replies.length → run = .next part) ∧
          (s.mgmt.queue.length < 4 → 4 ≤ s.mgmt.replies.length → run =
            .next { part with mgmt := { part.mgmt with mark := .none, queue := s.mgmt.queue ++ [(seq, q)] } }) ∧
          (s.mgmt.queue = [] → s.mgmt.replies.length < 4 → run = .next (part.request seq q))))))

/-- R174 with R173: each time it is free, the sender of the management link sends the oldest reply, or with no reply the oldest
notice, and what it sends leaves its list. A request that waited for the reply list is then taken, as one that comes in. -/
def Obligations.SenderSendsRepliesBeforeNotices : Prop :=
  ∀ s : State,
    (s.mgmt.replies = [] → s.mgmt.notices = [] → exec .mgmtSenderFree s = .next s) ∧
    (∀ n rest, s.mgmt.replies = [] → s.mgmt.notices = n :: rest → exec .mgmtSenderFree s =
      .next { s with sent := s.sent ++ [.notice n], mgmt := { s.mgmt with notices := rest } }) ∧
    (∀ r rest, s.mgmt.replies = r :: rest →
      ((s.mgmt.queue = [] ∨ 4 ≤ rest.length) → exec .mgmtSenderFree s =
        .next { s with sent := s.sent ++ [.mgmtReply r], mgmt := { s.mgmt with replies := rest } }) ∧
      (∀ seq q, s.mgmt.queue = [(seq, q)] → rest.length < 4 → s.mgmt.mark = .none → exec .mgmtSenderFree s =
        .next (State.request seq q
          { s with sent := s.sent ++ [.mgmtReply r], mgmt := { s.mgmt with replies := rest, queue := [] } })))

/-- Every step keeps the bounds of `State.Bounded`: the clock; the request queue, reply list and notice queue; the intakes; the
claim list, in all and a link's; the volume table and the roster, each volume once, with the waiting lists; the snapshot
records, in all and a volume's; the restore queue, active places and ended list; the unconfirmed window with the consignment
in hand; the credits, the fault counter and the probe history. -/
def Obligations.EveryStepKeepsTheBounds : Prop :=
  ∀ s t : State, s.Bounded → step s = .next t → t.Bounded

/-- The owner table stays in ascending owner number with no owner twice, and within 16,384 records, at every step (R1). -/
def Obligations.EveryStepKeepsTheOwnersOrdered : Prop :=
  ∀ s t : State, s.OwnersOrdered → step s = .next t → t.OwnersOrdered

/-- Every step keeps what the rules keep of a state together, `State.Sound`. Beside `Bounded` and `OwnersOrdered` it has every claim,
pending preservation and snapshot OPENING accounted for (`Accounted`): an owner's reserved count is what its open claims were
granted (R27), no two claims have one ticket (R28), a RESTORE claim and a restore's pending preservation are an active restore's
(R37, R82), an OPENING snapshot is its defined volume's only one (R52); and with them what this rests on: claims of owners with a
record, and none in STARTING and LOADING; restores with ids of their own, each operation and each pending preservation of a restore
for a block that it has in progress; roster entries of defined volumes (R130), a take left due only where it is deferred (the model's
mark, log entry 11). -/
def Obligations.EveryStepKeepsTheAccounts : Prop :=
  ∀ s t : State, s.Sound → step s = .next t → t.Sound

/-! ### Restores -/

/-- R103 with R104 and R105: REQUEST RESTORE checks in the order of R103 and refuses at the first failure, changing nothing;
otherwise the restore takes a fresh id, places its hold on its source and joins the tail of the queue, any record of the id
leaves the ended list, and the reply is ACCEPTED with the id. When the part is not SERVING or every place is taken it stays
queued; alone in SERVING it takes a place at once, in PLANNING, and the mover makes its queue. There it waits while the fence
volume has a snapshot OPENING. Otherwise R106 to R109 follow in the same event: the sweep counts w, v and k; a restore not
admitted closes FAILED with its reason (its source LIVE, here); an IN_PLACE one that is admitted enters FENCING, and stays
there while a server link's pending preservation names a block of its fence; one admitted for a range without entries goes
through COPYING and closes DONE (R110, R116). The admission: INDEX_FULL below k free entries; IN_PLACE, POOL_EMPTY below k
free slots, with the low mark kept free if ORDINARY; SIDE, a RESTORE claim of w blocks, granted in full or refused
CLAIM_TABLE_FULL or OVER_LIMIT, and none made for w = 0. (The model's choice: the blocks k counts, log entry 13.) -/
def Obligations.RequestRestoreIsCheckedAndQueued : Prop :=
  ∀ (s : State) (seq : U16) (q : RestoreReq), s.mgmtReady →
    let v := q.volume.toNat
    let e := q.epoch.toNat
    let run := exec (.requestRestore seq q) s
    let refused (st : Status) : Prop := run = .next (s.heard.reply seq 30 st 0 .empty)
    (operable s.mgmt.service = false → refused .wrongState) ∧
    (operable s.mgmt.service = true → badRestore q → refused .badField) ∧
    (∀ mode urgency, operable s.mgmt.service = true → ¬badRestore q → modeIsFor q mode → q.urgency = some urgency →
      let id := s.restoreId
      let r := queuedRestore id q mode urgency
      ((s.volume? v = none ∨ s.volume? r.fenceVolume = none) → refused .unknownVolume) ∧
      (s.volume? v ≠ none → s.volume? r.fenceVolume ≠ none →
        ((∀ x, s.snap? v e = some x → ¬x.kept) → refused .noSnapshot) ∧
        (∀ x, s.snap? v e = some x → x.kept →
          (s.owner? q.owner.toNat = none → refused .unknownOwner) ∧
          (s.owner? q.owner.toNat ≠ none → 16 ≤ s.rest.queue.length → refused .busy) ∧
          (s.owner? q.owner.toNat ≠ none → s.rest.queue.length < 16 →
            ∃ snaps, snapsWith s.cat.snaps snaps (v, e) (some (x.heldBy (.restore id))) ∧
              (let after (queue active : List Restore) (queues : List RestoreQueue) : State :=
                ({ s.heard with
                  cat := { s.cat with snaps := snaps }
                  mover := { s.mover with restoreQs := queues }
                  rest := { queue := queue, active := active, ended := s.rest.ended.filter fun d => d.id ≠ id,
                            idCounter := if id < 65535 then id + 1 else 1 } } : State).reply seq 30 .accepted 0 (.number id)
               ((s.mgmt.service ≠ .serving ∨ 4 ≤ s.rest.active.length) →
                 run = .next (after (s.rest.queue ++ [r]) s.rest.active s.mover.restoreQs)) ∧
               (s.mgmt.service = .serving → s.rest.active = [] → s.rest.queue = [] →
                 s.hasSnap r.fenceVolume .opening = true →
                 run = .next (after [] [{ r with state := .planning }] (s.mover.restoreQs ++ [{ id := id, ops := [] }]))) ∧
               (s.mgmt.service = .serving → s.rest.active = [] → s.rest.queue = [] →
                 s.hasSnap r.fenceVolume .opening = false →
                 let plan := s.sweepPlan r
                 let closed (st : RestoreState) (o : RestoreOutcome) (snaps' : List Snapshot) : State :=
                   (({ s.heard with
                     cat := { s.cat with snaps := snaps' }
                     mover := { s.mover with restoreQs := s.mover.restoreQs.filter fun x => x.id ≠ id }
                     rest := { queue := [], active := []
                               ended := lastEnded ((s.rest.ended.filter fun d => d.id ≠ id) ++
                                 [{ r with state := st, outcome := some o, plan := some plan
                                           cursor := if o = .done then some (r.first + r.count) else none }])
                               idCounter := if id < 65535 then id + 1 else 1 } } : State).reply
                     seq 30 .accepted 0 (.number id)).raise (.restoreEnded id o 0 0 0)
                 let released (snaps' : List Snapshot) : Prop :=
                   snapsWith s.cat.snaps snaps' (v, e) (some (x.without (.restore id)))
                 (∀ reason, s.admission r plan = .error reason → x.state = .live →
                   ∃ snaps', released snaps' ∧ run = .next (closed .failed (.failed reason) snaps')) ∧
                 (mode = .inPlace → s.admission r plan = .ok (s, none) → (∃ p ∈ s.pres.pendings, p.inFence r = true) →
                   run = .next (after [] [{ r with state := .fencing, plan := some plan }]
                     (s.mover.restoreQs ++ [{ id := id, ops := [] }]))) ∧
                 (s.admission r plan = .ok (s, none) → (∀ p ∈ s.pres.pendings, p.inFence r = false) → x.state = .live →
                   (∀ b, r.first ≤ b → b < r.first + r.count → s.lookup v b e = .live) →
                   ∃ snaps', released snaps' ∧ run = .next (State.moverEnd (closed .done .done snaps'))))))))) ∧
    (∀ r : Restore, s.pres.index.Pairwise (fun a b => entryBefore a b = true) →
      let within (b : Nat) : Prop := r.first ≤ b ∧ b < r.first + r.count
      let kept (u b : Nat) : Prop := ∃ i m, s.current u = .interval i m ∧ s.entry? u b i ≠ none
      ∃ slots fresh needed : List Nat, slots.Nodup ∧ fresh.Nodup ∧ needed.Nodup ∧
        (∀ b, b ∈ slots ↔ within b ∧ ∃ n i o st, s.lookup r.volume b r.epoch = .slot n i o st) ∧
        (∀ b, b ∈ fresh ↔ within b ∧ ∃ i, s.lookup r.volume b r.epoch = .fresh i) ∧
        (r.mode = .inPlace → ∀ b, b ∈ needed ↔ (b ∈ slots ∨ b ∈ fresh) ∧ ¬kept r.volume b) ∧
        (∀ u t, r.mode = .side u t → ∀ b, b ∈ needed ↔ b ∈ slots ∧ (∃ i m, s.current u = .interval i m) ∧
          ¬kept u (t + (b - r.first))) ∧
        s.sweepPlan r = { w := slots.length, v := fresh.length, k := needed.length }) ∧
    (∀ (r : Restore) (plan : Plan),
      let floor := if r.urgency = .ordinary then s.pres.lowMark else 0
      (s.indexFree < plan.k → s.admission r plan = .error .indexFull) ∧
      (plan.k ≤ s.indexFree → r.mode = .inPlace →
        (s.pres.free.length < plan.k + floor → s.admission r plan = .error .poolEmpty) ∧
        (plan.k + floor ≤ s.pres.free.length → s.admission r plan = .ok (s, none))) ∧
      (∀ u t, plan.k ≤ s.indexFree → r.mode = .side u t →
        (plan.w = 0 → s.admission r plan = .ok (s, none)) ∧
        (0 < plan.w → 4096 ≤ s.quota.claims.length → s.admission r plan = .error .claimTableFull) ∧
        (∀ o, 0 < plan.w → s.quota.claims.length < 4096 → s.owner? r.owner = some o →
          let charge := min (o.held + o.reserved + (o.pinned * o.share + 15) / 16) 4294967295
          let limit := if o.grace = .expired then o.soft else o.hard
          let ceiling := if r.tags &&& o.overTags = 0 then limit else min (limit + o.overdraft) 4294967295
          (ceiling - charge < plan.w → s.admission r plan = .error .overLimit) ∧
          (plan.w ≤ ceiling - charge →
            let granted : OwnerRecord := { o with reserved := o.reserved + plan.w }
            let after := graceOutcome s.clock.minute (s.graceMinutes o) granted
            ∃ owners, ownersWith s.quota.owners owners r.owner (some { granted with grace := after.1 }) ∧
              s.admission r plan = .ok (State.raiseIf after.2 { s with quota :=
                { s.quota with
                  owners := owners
                  claims := s.quota.claims ++ [{ ticket := s.ticket, owner := r.owner, granted := plan.w, kind := .restore }]
                  ticketCounter := if s.ticket < 4294967295 then s.ticket + 1 else 1 } }, some s.ticket))))) ∧
    (1 ≤ s.rest.idCounter → s.rest.idCounter ≤ 65535 → s.rest.queue.length + s.rest.active.length ≤ 20 →
      1 ≤ s.restoreId ∧ s.restoreId ≤ 65535 ∧ (∀ r ∈ s.rest.queue ++ s.rest.active, r.id ≠ s.restoreId) ∧
      ((∀ r ∈ s.rest.queue ++ s.rest.active, r.id ≠ s.rest.idCounter) → s.restoreId = s.rest.idCounter))

/-- R117, line by line, with the closing of R116, and R118. CANCEL RESTORE: a queued restore leaves the queue for the
ended list without a notice; one in PLANNING or FENCING, and one in COPYING or STALLED with no block in progress, closes
CANCELLED; one with blocks in progress enters ENDING; one in ENDING stays. READ RESTORE finds a restore in the queue, an
active place or the ended list and changes nothing. R47 with R56: where the hold released leaves a RETIRE_PENDING source
without holds, the merge start of its volume runs. (Where a restore leaves its place here, it holds no claim, and no queued
restore waits for the place.) (The model's choice: the position counted from 1, and the status OK of a record found, log
entries 12 and 40.) -/
def Obligations.CancelAndReadRestoreFollowTheTables : Prop :=
  ∀ (s : State) (seq : U16) (id : U32), s.mgmtReady →
    let n := id.toNat
    let cancel := exec (.cancelRestore seq id) s
    let read := exec (.readRestore seq id) s
    let queued := s.rest.queue.find? fun r => r.id = n
    let released (r : Restore) (snaps : List Snapshot) : Prop := snapsWith s.cat.snaps snaps (r.volume, r.epoch)
      ((s.snap? r.volume r.epoch).map (Snapshot.without (.restore n)))
    let unheld (r : Restore) : Bool := (s.snap? r.volume r.epoch).any fun x =>
      x.state = .retirePending ∧ x.holds ≠ [] ∧ ∀ h ∈ x.holds, h = .restore n
    let settled (r : Restore) (t : State) : State := if unheld r then t.mergeStart r.volume else t
    (operable s.mgmt.service = false → cancel = .next (s.heard.reply seq 33 .wrongState 0 .empty)) ∧
    (operable s.mgmt.service = true →
      (∀ r, queued = some r → ∃ snaps, released r snaps ∧
        cancel = .next ((settled r { s.heard with
          cat := { s.cat with snaps := snaps }
          rest := { s.rest with queue := s.rest.queue.filter fun d => d.id ≠ n
                                ended := lastEnded (s.rest.ended ++ [r.ended .cancelled .cancelled]) } }).reply
          seq 33 .cancelled 0 .empty)) ∧
      (queued = none → s.active? n = none → cancel = .next (s.heard.reply seq 33 .noRestore 0 .empty)) ∧
      (∀ r, queued = none → s.active? n = some r →
        (r.state = .ending → cancel = .next (s.heard.reply seq 33 .accepted 8 .empty)) ∧
        ((r.state = .copying ∨ r.state = .stalled) → r.inProgress ≠ [] →
          cancel = .next (({ s.heard with rest := { s.rest with active := s.rest.active.map fun a =>
              if a.id = n then { a with state := .ending, outcome := some .cancelled, stall := none } else a } }
            : State).reply seq 33 .accepted 0 .empty)) ∧
        ((r.state = .planning ∨ r.state = .fencing ∨ (r.state = .copying ∨ r.state = .stalled) ∧ r.inProgress = []) →
          r.ticket = none → s.rest.queue = [] → ∃ snaps, released r snaps ∧
          cancel = .next (((settled r { s.heard with
            cat := { s.cat with snaps := snaps }
            mover := { s.mover with restoreQs := s.mover.restoreQs.filter fun d => d.id ≠ n }
            rest := { s.rest with active := s.rest.active.filter fun a => a.id ≠ n
                                  ended := lastEnded (s.rest.ended ++ [r.ended .cancelled .cancelled]) } }).raise
            (.restoreEnded n .cancelled r.written r.freed r.preserved)).reply seq 33 .accepted 0 .empty)))) ∧
    (s.mgmt.service = .loading → read = .next (s.heard.reply seq 34 .wrongState 0 .empty)) ∧
    (s.mgmt.service ≠ .loading →
      let found (r : Restore) (position blocks : Option Nat) : Prop := read = .next (s.heard.reply seq 34 .ok 0
        (.restore { record := r, position := position, blocksInProgress := blocks }))
      (∀ before r after, s.rest.queue = before ++ r :: after → r.id = n → (∀ d ∈ before, d.id ≠ n) →
        found r (some (before.length + 1)) none) ∧
      (∀ r, queued = none → s.active? n = some r → found r none (some r.inProgress.length)) ∧
      (∀ r, queued = none → s.active? n = none → (s.rest.ended.find? fun r => r.id = n) = some r → found r none none) ∧
      (queued = none → s.active? n = none → (∀ r ∈ s.rest.ended, r.id ≠ n) →
        read = .next (s.heard.reply seq 34 .noRestore 0 .empty)))

/-- R110 to R116 with R82 and R92: the work of an active restore. The end of a stall ends it FAILED with the reason of its
last refusal. A block finishes with its operation: a copy counts as written, a FREE as freed; a fault or a timeout raises
STORE_FAULT, counts nothing, and ends a restore in COPYING or STALLED FAILED. In ENDING nothing is started; with the last
block finished the restore closes with its outcome, and in COPYING with its range behind it DONE. Each finish takes the walk:
it stops at its bounds, at an OPENING fence volume and at a COPYING entry, passes the LIVE blocks and, if SIDE, the FRESH
ones, skips the SLOT blocks beyond a SIDE restore's claim, and starts the others. A start makes a preservation of the target
block: not needed, or kept already, the operation is handed to the mover at once; an entry still COPYING, an outstanding live
read or a copy of its own makes it wait in PRESERVING; INDEX_FULL and POOL_EMPTY stall the restore, with the stall limit
unless it is stalled already; its entry raises INDEX_LOW as R65 says. (Where it closes here, its source is LIVE and no restore
waits for the place; the fence volume has no snapshot OPENING at a finish.) (The model's choice: the expiry and the timeout as
commands that do nothing before they are due, STORE_FAULT raised before the client learns the outcome, an already block of the
merging interval, the single evaluations, the retry of a STALLED restore at a finish, and the operation READ that STORE_FAULT
names for a copy's WRITE, log entries 4, 8, 9, 10, 42 and 54.) -/
def Obligations.StallExpiryEndsTheRestore : Prop :=
  (∀ (s : State) (id : U16) (r : Restore) (reason : Status), s.active? id.toNat = some r → r.state = .stalled →
    r.lastRefusal = some reason →
    let run := exec (.stallExpiry id) s
    (∀ k, r.stall = some (k + 1) → run = .next s) ∧
    (r.stall = some 0 → r.inProgress ≠ [] → run = .next (s.withRestore id.toNat fun a =>
      { a with state := .ending, outcome := some (.failed reason), stall := none })) ∧
    (r.stall = some 0 → r.inProgress = [] → (∀ x, s.snap? r.volume r.epoch = some x → x.state = .live) → s.rest.queue = [] →
      ∃ t, s.closedAs r .failed (.failed reason) t ∧ run = .next t)) ∧
  (∀ (s : State) (t : Fin 32) (i : Issued) (id b : Nat) (r : Restore), s.mover.tag t = some i →
    i.op.client = .restore id b → s.active? id = some r → s.hasSnap r.fenceVolume .opening = false →
    let freed : State := { s with mover := { s.mover with tags := s.mover.tags.set t none } }
    let finish (counted : Bool) (a : Restore) : Restore :=
      { a with inProgress := a.inProgress.filter fun x => x.1 ≠ b
               written := if counted = true ∧ i.op.op ≠ .free then a.written + 1 else a.written
               freed := if counted = true ∧ i.op.op = .free then a.freed + 1 else a.freed }
    let last : Prop := ∀ x ∈ r.inProgress, x.1 = b
    let moving : Prop := r.state = .copying ∨ r.state = .stalled
    let closes (x : State) (counted : Bool) (st : RestoreState) (o : RestoreOutcome)
        (run : Host.Outcome State Fault Refusal) : Prop :=
      (∀ y, s.snap? r.volume r.epoch = some y → y.state = .live) → s.rest.queue = [] →
        ∃ u, x.closedAs (finish counted r) st o u ∧ run = .next u.moverEnd
    let good (run : Host.Outcome State Fault Refusal) : Prop :=
      let done := freed.withRestore id (finish true)
      (r.state = .ending → ¬last → run = .next done.moverEnd) ∧
      (∀ o, r.state = .ending → last → r.outcome = some o → closes freed true o.state o run) ∧
      (∀ c, r.state = .copying → r.cursor = some c → r.first + r.count ≤ c →
        (¬last → run = .next done.moverEnd) ∧ (last → closes freed true .done .done run)) ∧
      (moving → ∀ u w, State.walkBlocks id (s.pres.index.length + 2) done = u → u.active? id = some w →
        (w.state = .copying → w.inProgress ≠ [] ∨ ∀ c, w.cursor = some c → c < w.first + w.count) →
        run = .next (State.moverEnd
          (if u.pres.free.length = s.pres.free.length then u else (u.evalGrace r.owner).evalPool)))
    let bad (cause : FaultCause) (run : Host.Outcome State Fault Refusal) : Prop :=
      let told := freed.raise (match i.phase, i.op.thenWrite with
        | .copyWrite, some (area, address) => .storeFault area address i.op.op i.phase i.op.client cause
        | _, _ => .storeFault i.op.area i.op.address i.op.op i.phase i.op.client cause)
      (r.state = .ending → ¬last → run = .next (told.withRestore id (finish false)).moverEnd) ∧
      (∀ o, r.state = .ending → last → r.outcome = some o → closes told false o.state o run) ∧
      (moving → ¬last → run = .next (told.withRestore id fun a =>
        { finish false a with state := .ending, outcome := some (.failed .storeFault), stall := none }).moverEnd) ∧
      (moving → last → closes told false .failed (.failed .storeFault) run)
    (∀ tag seq, s.answersPhase tag seq t i →
      (i.op.op = .free ∧ i.phase = .first ∧ i.op.thenWrite = none) ∨
        (i.op.op = .read ∧ i.phase = .copyWrite ∧ i.op.thenWrite ≠ none) → good (exec (.storeDone tag seq) s)) ∧
    (∀ tag seq reason, s.answersPhase tag seq t i → bad (.array reason) (exec (.storeFault tag seq reason) s)) ∧
    (i.remaining = 0 → bad .timeout (exec (.storeTimeout t) s))) ∧
  (∀ (s : State) (id c : Nat) (r : Restore), s.active? id = some r → r.cursor = some c →
    let stop := r.first + r.count
    let looked (b : Nat) : Lookup := s.lookup r.volume b r.epoch
    let granted := if r.ticket = none then 0 else (r.plan.map (·.w)).getD 0
    let at' (n : Nat) (a : Restore) : Restore := { a with state := .copying, stall := none, lastRefusal := none, cursor := some n }
    (∀ n u more, s.walkBlock id = (u, more) →
      (more = true → (∃ w, u.active? id = some w ∧ w.state = .copying) →
        State.walkBlocks id (n + 1) s = State.walkBlocks id n u) ∧
      ((more = false ∨ ∀ w, u.active? id = some w → w.state ≠ .copying) → State.walkBlocks id (n + 1) s = u)) ∧
    (s.mgmt.service ≠ .serving ∨ (r.state ≠ .copying ∧ r.state ≠ .stalled) ∨ 16 ≤ r.inProgress.length ∨ stop ≤ c →
      s.walkBlock id = (s, false)) ∧
    (s.mgmt.service = .serving → r.state = .copying ∨ r.state = .stalled → r.inProgress.length < 16 → c < stop →
      (s.hasSnap r.fenceVolume .opening = true → s.walkBlock id = (s.withRestore id (at' c), false)) ∧
      (s.hasSnap r.fenceVolume .opening = false →
        ((∀ b, c ≤ b → b < stop → looked b = .live) → s.walkBlock id = (s.withRestore id (at' stop), false)) ∧
        (∀ b, c ≤ b → b < stop → looked b ≠ .live → (∀ d, c ≤ d → d < b → looked d = .live) →
          (∀ i, looked b = .fresh i → ∀ u v, r.mode = .side u v →
            s.walkBlock id = (s.withRestore id (at' (b + 1)), true)) ∧
          (∀ n i o, looked b = .slot n i o .copying → s.walkBlock id = (s.withRestore id (at' b), false)) ∧
          (∀ n i o, looked b = .slot n i o .settled → ∀ u v, r.mode = .side u v → granted ≤ r.written + r.inProgress.length →
            s.walkBlock id = (s.withRestore id fun a => { at' (b + 1) a with skipped := a.skipped + 1 }, true)) ∧
          (∀ i, looked b = .fresh i → r.mode = .inPlace → s.walkBlock id = (s.startBlock r b none, true)) ∧
          (∀ n i o, looked b = .slot n i o .settled → r.mode = .inPlace ∨ r.written + r.inProgress.length < granted →
            s.walkBlock id = (s.startBlock r b (some n), true)))))) ∧
  ∀ (s : State) (r : Restore) (b : Nat) (found : Option Nat), r ∈ s.rest.active → (∀ a ∈ s.rest.active, a.id = r.id → a = r) →
    (∀ x ∈ r.inProgress, x.1 ≠ b) → r.first ≤ b →
    let v := r.fenceVolume
    let target := r.fenceFirst + (b - r.first)
    let went (step : BlockStep) (new : Nat) (t : State) : State := t.withRestore r.id fun _ =>
      { r with state := .copying, stall := none, lastRefusal := none, cursor := some (b + 1)
               inProgress := r.inProgress ++ [(b, step)], preserved := r.preserved + new }
    let op : StoreOp := match found with
      | some k => { op := .read, area := .pool, address := k, length := 1, thenWrite := some (.volume v, target),
                    client := .restore r.id b }
      | none => { op := .free, area := .volume v, address := target, length := 1, thenWrite := none,
                  client := .restore r.id b }
    let handed (new : Nat) (t : State) : State :=
      { went (if found = none then .freeing else .writing) new t with
        mover := { t.mover with restoreQs := t.mover.restoreQs.map fun x =>
          if x.id = r.id then { x with ops := x.ops ++ [op] } else x } }
    let waits (new : Nat) (own waitsOn : List (Nat × Nat)) (t : State) : State :=
      { went (.preserving found) 0 t with
        pres := { t.pres with pendings := t.pres.pendings ++
          [{ who := .restore r.id, counted := false, volume := v, first := target, count := 1, newCount := new,
             alreadyCount := 1 - new, own := own, waitsOn := waitsOn, faulted := [], gate := s.gateOf v target 1 }] } }
    let stalled (reason : Status) : State := s.withRestore r.id fun _ =>
      { r with state := .stalled, cursor := some b, lastRefusal := some reason
               stall := some (match r.stall with
                 | some k => k
                 | none => s.timers.stallLimit) }
    let start := s.startBlock r b found
    ((∀ e m, s.current v ≠ .interval e m) → start = handed 0 s) ∧
    (∀ interval m, s.current v = .interval interval m →
      let gate := s.gateOf v target 1
      (∀ e, s.alreadyEntry v target (.interval interval m) = some e →
        (e.copying = false → gate = [] → start = handed 0 s) ∧
        (e.copying = false → gate ≠ [] → start = waits 0 [] [] s) ∧
        (∀ k o, e.kind = .slot k o .copying → start = waits 0 [] [(target, k)] s)) ∧
      (s.alreadyEntry v target (.interval interval m) = none →
        (s.indexFree = 0 → start = stalled .indexFull) ∧
        (0 < s.indexFree → r.mode = .inPlace → s.pres.free = [] → start = stalled .poolEmpty) ∧
        (0 < s.indexFree →
          let low := decide (s.indexFree ≤ 524288)
          let with' (index : List Entry) (snaps : List Snapshot) : State :=
            State.raiseIf (if low = true ∧ s.pres.indexLow = false then some (.indexLow (s.indexFree - 1) v) else none)
              { s with pres := { s.pres with index := index, indexLow := s.pres.indexLow || low }
                       cat := { s.cat with snaps := snaps } }
          let adds (kind : EntryKind) (index : List Entry) (snaps : List Snapshot) : Prop :=
            entriesWith s.pres.index index (v, target, interval)
              (some { volume := v, block := target, interval := interval, kind := kind }) ∧
            snapsWith s.cat.snaps snaps (v, interval)
              ((s.snap? v interval).map fun x => { x with changeCount := x.changeCount + 1 })
          (∀ u w, r.mode = .side u w → ∃ index snaps,
            (gate = [] → start = handed 1 (with' index snaps)) ∧ (gate ≠ [] → start = waits 1 [] [] (with' index snaps)) ∧
            adds .fresh index snaps) ∧
          (∀ k rest, r.mode = .inPlace → s.pres.free = k :: rest → ∃ index owners snaps, start = waits 1 [(target, k)] []
              { with' index snaps with
                pres := { s.pres with index := index, indexLow := s.pres.indexLow || low, free := rest }
                quota := { s.quota with owners := owners }
                mover := { s.mover with preservationQ := s.mover.preservationQ ++
                  [{ op := .read, area := .volume v, address := target, length := 1, thenWrite := some (.pool, k),
                     client := .preservation (some r.id) }] } } ∧
            adds (.slot k r.owner .copying) index snaps ∧
            ownersWith s.quota.owners owners r.owner ((s.owner? r.owner).map fun o => { o with pinned := o.pinned + 1 })))))

/-! ### The duplication schedule -/

/-- R123 with the clamping of R122, R126, R127 and R128: WRITE SCHEDULE writes the clamped settings, into the live
settings too when STOPPED; START SCHEDULE runs a STOPPED schedule and refuses a bad mode or any other state; STOP SCHEDULE
stops a RUNNING one at once when no pass is active, with the effects of entering STOPPED, and otherwise makes it STOPPING,
and the engine tests what it may do; a stop with a run open ends the run (R152); CLEAR CYCLE sets the counter of a STOPPED
schedule to 0. (The model's choice: the minute advances still due that a stop clears, the order of a request's checks and
the state in an ALREADY reply, log entries 4, 25 and 27.) -/
def Obligations.ScheduleRequestsFollowTheState : Prop :=
  ∀ (s : State) (seq : U16), s.mgmtReady →
    let refused (c : Instr) (code : Nat) (st : Status) : Prop := exec c s = .next (s.heard.reply seq code st 0 .empty)
    (∀ q : ScheduleReq,
      (configurable s.mgmt.service = false → refused (.writeSchedule seq q) 35 .wrongState) ∧
      (configurable s.mgmt.service = true →
        let c := max 60 (min q.cycle.toNat 10080)
        let p := min q.point.toNat (c - 1)
        let w := max p (min q.window.toNat (c - 1))
        let d := max 1 (min q.length.toNat (c - w))
        let x : Settings := { cycle := c, point := p, window := w, length := d, reload := q.reload.toNat }
        let clamped := q.cycle.toNat ≠ c ∨ q.point.toNat ≠ p ∨ q.window.toNat ≠ w ∨ q.length.toNat ≠ d
        ∀ flag : Flags, (clamped → flag = 1) → (¬clamped → flag = 0) →
        (s.sched.state = .stopped → exec (.writeSchedule seq q) s = .next (({ s.heard with sched :=
          { s.sched with next := x, live := x, nextWritten := false
                         counter := if c - 1 < s.sched.counter then 0 else s.sched.counter } } : State).reply
          seq 35 .ok (flag ||| 32) (.settings x))) ∧
        (s.sched.state ≠ .stopped → exec (.writeSchedule seq q) s = .next (({ s.heard with sched :=
          { s.sched with next := x, nextWritten := true } } : State).reply seq 35 .ok flag (.settings x))))) ∧
    (∀ mode : Option RunMode,
      (operable s.mgmt.service = false → refused (.startSchedule seq mode) 36 .wrongState) ∧
      (operable s.mgmt.service = true → mode = none → refused (.startSchedule seq mode) 36 .badField) ∧
      (operable s.mgmt.service = true → mode ≠ none → s.sched.state ≠ .stopped →
        refused (.startSchedule seq mode) 36 .wrongState) ∧
      (∀ m, operable s.mgmt.service = true → mode = some m → s.sched.state = .stopped →
        exec (.startSchedule seq mode) s = .next (({ s.heard with sched := { s.sched with mode := m, state := .running } }
          : State).reply seq 36 .ok 0 (.number s.sched.counter)))) ∧
    (operable s.mgmt.service = false ∨ s.sched.state = .stopped → refused (.stopSchedule seq) 37 .wrongState) ∧
    (operable s.mgmt.service = true →
      (s.sched.state = .stopping →
        exec (.stopSchedule seq) s = .next (s.heard.reply seq 37 .ok 8 (.scheduleState .stopping))) ∧
      (∀ p, s.sched.state = .running → s.offsite.pass = some p →
        exec (.stopSchedule seq) s = .next (State.engineTests
          (({ s.heard with sched := { s.sched with state := .stopping } } : State).reply seq 37 .ok 0
            (.scheduleState .stopping)))) ∧
      (s.sched.state = .running → s.offsite.pass = none → s.rosterDistinct →
        let roster := s.sched.roster.map RosterEntry.passedOver
        let stopped : Schedule :=
          { s.sched with state := .stopped, windowOpen := false, runOpen := false, advancesDue := 0, roster := roster,
                         nextWritten := false
                         live := if s.sched.nextWritten then s.sched.next else s.sched.live
                         counter := if s.sched.nextWritten = true ∧ s.sched.next.cycle - 1 < s.sched.counter then 0
                           else s.sched.counter }
        exec (.stopSchedule seq) s = .next (((State.raiseLate s.sched.roster { s.heard with sched := stopped }).raiseIf
          (if s.sched.runOpen then some (.runEnded (roster.countP fun e => e.pass = .done)
            (roster.countP fun e => e.pass = .abandoned) (roster.countP fun e => e.pass = .skipped)) else none)).reply
          seq 37 .ok 0 (.scheduleState .stopped)))) ∧
    (configurable s.mgmt.service = false ∨ s.sched.state ≠ .stopped → refused (.clearCycle seq) 38 .wrongState) ∧
    (configurable s.mgmt.service = true → s.sched.state = .stopped →
      exec (.clearCycle seq) s = .next (({ s.heard with sched := { s.sched with counter := 0 } } : State).reply seq 38 .ok 0
        (.number s.sched.counter)))

/-- R130 and R131 with the holds of R47: WRITE ROSTER replaces the keep count of the volume's entry or appends a new SKIPPED
entry with base 0; ERASE ROSTER takes out an entry whose pass is not active and releases its base's hold; SET BASE moves the
base to a LIVE snapshot or to 0, placing the one hold and releasing the other. WRITE ROSTER and SET BASE are followed by the
test for a new pass (R140). (The snapshots whose hold is released are LIVE here, so no merge begins.) (The model's choice:
the service state checked before the fields, log entry 25.) -/
def Obligations.RosterRequestsKeepTheBaseHeld : Prop :=
  ∀ (s : State) (seq : U16) (volume : U32), s.mgmtReady →
    let v := volume.toNat
    let refused (c : Instr) (code : Nat) (st : Status) : Prop := exec c s = .next (s.heard.reply seq code st 0 .empty)
    let active : Prop := ∃ p, s.offsite.pass = some p ∧ p.volume = v
    (∀ n : U32,
      (configurable s.mgmt.service = false →
        refused (.writeRoster seq volume n) 39 .wrongState ∧ refused (.eraseRoster seq volume) 40 .wrongState) ∧
      (configurable s.mgmt.service = true → 47 < v →
        refused (.writeRoster seq volume n) 39 .badField ∧ refused (.eraseRoster seq volume) 40 .badField) ∧
      (operable s.mgmt.service = false → refused (.setBase seq volume n) 41 .wrongState) ∧
      (operable s.mgmt.service = true → 47 < v → refused (.setBase seq volume n) 41 .badField)) ∧
    (∀ keep : U32, configurable s.mgmt.service = true → v ≤ 47 →
      let k := max 1 (min keep.toNat 14)
      let run := exec (.writeRoster seq volume keep) s
      ∀ flag : Flags, (keep.toNat ≠ k → flag = 1) → (keep.toNat = k → flag = 0) →
      (s.volume? v = none → refused (.writeRoster seq volume keep) 39 .unknownVolume) ∧
      (s.volume? v ≠ none → s.roster? v = none → run = .next (State.passTest (({ s.heard with sched :=
        { s.sched with roster := s.sched.roster ++
          [{ volume := v, base := 0, keep := k, target := none, deferred := false, pass := .skipped }] } } : State).reply
        seq 39 .ok (flag ||| 4) .empty))) ∧
      (∀ e, s.volume? v ≠ none → s.roster? v = some e → ∃ roster,
        run = .next (State.passTest (({ s.heard with sched := { s.sched with roster := roster } } : State).reply
          seq 39 .ok flag .empty)) ∧
        rosterWith s.sched.roster roster v (some { e with keep := k }))) ∧
    (configurable s.mgmt.service = true → v ≤ 47 →
      (s.roster? v = none → refused (.eraseRoster seq volume) 40 .noEntry) ∧
      (∀ e, s.roster? v = some e →
        (active → refused (.eraseRoster seq volume) 40 .wrongState) ∧
        (¬active → (∀ x, s.snap? v e.base = some x → x.state = .live) → ∃ snaps,
          exec (.eraseRoster seq volume) s = .next (({ s.heard with
            cat := { s.cat with snaps := snaps }
            sched := { s.sched with roster := s.sched.roster.filter fun d => d.volume ≠ v } } : State).reply seq 40 .ok 0
            (.number e.base)) ∧
          snapsWith s.cat.snaps snaps (v, e.base) ((s.snap? v e.base).map fun x =>
            if e.base = 0 then x else x.without .duplication)))) ∧
    (∀ epoch : U32, operable s.mgmt.service = true → v ≤ 47 →
      let n := epoch.toNat
      (s.roster? v = none → refused (.setBase seq volume epoch) 41 .noEntry) ∧
      (∀ e, s.roster? v = some e →
        (active → refused (.setBase seq volume epoch) 41 .wrongState) ∧
        (¬active → n ≠ 0 → (∀ x, s.snap? v n = some x → x.state ≠ .live) →
          refused (.setBase seq volume epoch) 41 .noSnapshot) ∧
        (¬active → (n = 0 ∨ ∃ x, s.snap? v n = some x ∧ x.state = .live) → n ≠ e.base →
          (∀ x, s.snap? v e.base = some x → x.state = .live) → ∃ snaps roster,
          exec (.setBase seq volume epoch) s = .next (State.passTest (({ s.heard with
            cat := { s.cat with snaps := snaps }, sched := { s.sched with roster := roster } } : State).reply seq 41 .ok 0
            (.number e.base))) ∧
          rosterWith s.sched.roster roster v (some { e with base := n }) ∧
          (∀ k, tableAt Snapshot.name snaps k = (tableAt Snapshot.name s.cat.snaps k).map fun x =>
            if k = (v, n) ∧ n ≠ 0 then x.heldBy .duplication
            else if k = (v, e.base) ∧ e.base ≠ 0 then x.without .duplication else x)) ∧
        (¬active → (n = 0 ∨ ∃ x, s.snap? v n = some x ∧ x.state = .live) → n = e.base →
          exec (.setBase seq volume epoch) s = .next (State.passTest (s.heard.reply seq 41 .ok 0 (.number e.base))))))

/-- R137, R158 and R185: READ SCHEDULE, READ DUPLICATION and READ STATUS return what the part holds when they are taken
and change nothing but the mark and the reply list; the first two are refused in LOADING, and READ STATUS then reports the
figures of the tables as 0. (The model's choice: the tables of before in LOADING, the records in hand, the status OK, and that
with no current pass the records in hand and the reads at the mover are 0, log entries 24, 32, 40 and 58.) -/
def Obligations.StatusReadsReturnWhatStands : Prop :=
  ∀ (s : State) (seq : U16), s.mgmtReady →
    (s.mgmt.service = .loading →
      exec (.readSchedule seq) s = .next (s.heard.reply seq 42 .wrongState 0 .empty) ∧
      exec (.readDuplication seq) s = .next (s.heard.reply seq 43 .wrongState 0 .empty)) ∧
    (s.mgmt.service ≠ .loading →
      exec (.readSchedule seq) s = .next (s.heard.reply seq 42 .ok 0 (.schedule
        { live := s.sched.live, next := s.sched.next, nextWritten := s.sched.nextWritten, state := s.sched.state,
          mode := s.sched.mode, counter := s.sched.counter, windowOpen := s.sched.windowOpen, roster := s.sched.roster })) ∧
      ∃ view, exec (.readDuplication seq) s = .next (s.heard.reply seq 43 .ok 0 (.duplication view)) ∧
        view.pass = s.offsite.pass ∧ view.window = s.offsite.window ∧ view.credits = s.offsite.credits ∧
        view.reload = s.sched.live.reload ∧ view.link = s.offsite.link ∧ view.faultCounter = s.offsite.faultCounter ∧
        view.faultThreshold = s.timers.faultThreshold ∧ view.silence = s.offsite.silence ∧
        view.probeHistory = s.offsite.probeHistory ∧ view.lastReject = s.offsite.lastReject ∧
        view.passCounter = s.offsite.passCounter ∧ view.runOpen = s.sched.runOpen ∧
        (∀ p, s.offsite.pass = some p →
          (view.readsAtMover = s.duplicationReads.countP fun r => r.pass = p.number) ∧
          (∀ h, p.inHand = some h → view.recordsInHand = h.records.countP fun x => match x.2 with
            | .data _ | .void => true
            | _ => false) ∧
          (p.inHand = none → view.recordsInHand = 0)) ∧
        (s.offsite.pass = none → view.readsAtMover = 0 ∧ view.recordsInHand = 0)) ∧
    ∃ view, exec (.readStatus seq) s = .next (s.heard.reply seq 51 .ok 0 (.status view)) ∧
      view.service = s.mgmt.service ∧ view.minute = s.clock.minute ∧ view.seconds = s.clock.seconds ∧
      view.noticeQueue = s.mgmt.notices.length ∧ view.noticeCounter = s.mgmt.noticeCounter ∧ view.mark = .none ∧
      view.requestQueue = 0 ∧ view.replyList = s.mgmt.replies.length ∧ view.link = s.offsite.link ∧
      view.faultCounter = s.offsite.faultCounter ∧ view.mode = s.mover.mode ∧
      view.preservationTags = s.mover.tagsHeld Client.isPreservation ∧ view.restoreTags = s.mover.tagsHeld Client.isRestore ∧
      view.duplicationTags = s.mover.tagsHeld Client.isDuplication ∧ view.serviceTags = s.mover.tagsHeld Client.isService ∧
      view.liveReads = s.mover.liveReads.length ∧
      view.links.length = 8 ∧
      (∀ l : Link, ∃ x, view.links[l.val]? = some x ∧ x.queueLength = (s.intake l).queue.length ∧
        x.headHeld = (s.intake l).held ∧ x.copying = s.copyingPreserves l ∧ x.openClaims = s.openClaims l ∧
        x.mark = (s.intake l).mark ∧
        x.waiting = (s.cat.volumes.map fun v => v.waiting.countP fun w => w.link = l).sum) ∧
      (s.mgmt.job = none → view.jobBlocks = none ∧ view.jobExtent = none) ∧
      (∀ c size minute extent step next out written faulted,
        s.mgmt.job = some (.save c size minute extent step next out written faulted) →
        view.jobBlocks = some written ∧ view.jobExtent = some extent) ∧
      (∀ extent next out read faulted blocks, s.mgmt.job = some (.load extent next out read faulted blocks) →
        view.jobBlocks = some read ∧ view.jobExtent = extent) ∧
      (s.mgmt.service ≠ .loading →
        view.freeSlots = s.pres.free.length ∧ view.quarantined = s.pres.quarantine.length ∧
        view.poolSize = s.pres.poolSize ∧ view.lowMark = s.pres.lowMark ∧ view.indexFree = 8388608 - s.pres.index.length ∧
        view.openClaims = s.quota.claims.length ∧ view.restoreQueue = s.rest.queue.length ∧
        view.activeRestores = s.rest.active.length ∧ view.schedule = some s.sched.state ∧
        view.counter = s.sched.counter ∧ view.windowStart = s.sched.live.window ∧
        view.windowEnd = s.sched.live.window + s.sched.live.length) ∧
      (s.mgmt.service = .loading →
        view.freeSlots = 0 ∧ view.quarantined = 0 ∧ view.poolSize = 0 ∧ view.lowMark = 0 ∧ view.indexFree = 0 ∧
        view.openClaims = 0 ∧ view.restoreQueue = 0 ∧ view.activeRestores = 0 ∧ view.schedule = none ∧ view.counter = 0 ∧
        view.windowStart = 0 ∧ view.windowEnd = 0)

/-- R140 with R141, and R152: the test for a new pass. Unless the window is open, the schedule RUNNING, the part SERVING, the
link UP and no pass active, it does nothing. Otherwise the first roster entry that is WAITING with a LIVE target is taken: with
base 0 it becomes SKIPPED with NO_BASE, with a base at or above the target it becomes SKIPPED, and the engine looks again; else
its pass begins: the target is held, the pass takes the next number, the credits are 0 and PASS OPEN is sent. And the test for
the end of a run: with the run open, no pass active and no entry WAITING, RUN_ENDED is raised and the run is closed. -/
def Obligations.PassBeginsOnTheFirstReadyEntry : Prop :=
  ∀ s : State,
    let may : Prop := s.sched.windowOpen = true ∧ s.sched.state = .running ∧ s.mgmt.service = .serving ∧
      s.offsite.link = .up ∧ s.offsite.pass = none
    (¬may → s.passTest = s) ∧
    (may → (∀ e ∈ s.sched.roster, ¬s.entryReady e) → s.passTest = s) ∧
    (∀ before e after target, may → s.rosterDistinct → s.sched.roster = before ++ e :: after →
      (∀ x ∈ before, ¬s.entryReady x) → s.entryReady e → e.target = some target →
      let skipped : State := { s with sched :=
        { s.sched with roster := before ++ { e with pass := .skipped, target := none } :: after } }
      (e.base = 0 → s.passTest = (skipped.raise (.noBase e.volume target)).passTest) ∧
      (0 < e.base → target ≤ e.base → s.passTest = skipped.passTest) ∧
      (0 < e.base → e.base < target → ∃ snaps,
        snapsWith s.cat.snaps snaps (e.volume, target) ((s.snap? e.volume target).map (Snapshot.heldBy .duplication)) ∧
        s.passTest =
          { s with
            cat := { s.cat with snaps := snaps }
            sched := { s.sched with roster := before ++ { e with pass := .opening } :: after }
            sent := s.sent ++ [.offsite s.offsite.sequence (.passOpen s.offsite.passCounter e.volume e.base target)]
            offsite :=
              { s.offsite with
                sequence := s.offsite.sequence + 1
                passCounter := if s.offsite.passCounter < 4294967295 then s.offsite.passCounter + 1 else 1
                credits := 0
                pass := some
                  { number := s.offsite.passCounter, volume := e.volume, base := e.base, target := target,
                    phase := .opening, cursor := some 0, nextConsignment := 1, inHand := none, recordsSent := 0,
                    recordsCommitted := 0, answerAttempt := 1, answerDeadline := some s.timers.commitTimeout,
                    reason := none } } })) ∧
    (s.sched.runOpen = true → s.offsite.pass = none → (∀ e ∈ s.sched.roster, e.pass ≠ .waiting) →
      s.testRunEnd = ({ s with sched := { s.sched with runOpen := false } } : State).raise
        (.runEnded (s.sched.roster.countP fun e => e.pass = .done) (s.sched.roster.countP fun e => e.pass = .abandoned)
          (s.sched.roster.countP fun e => e.pass = .skipped))) ∧
    (s.sched.runOpen = false ∨ s.offsite.pass ≠ none ∨ (∃ e ∈ s.sched.roster, e.pass = .waiting) → s.testRunEnd = s)

/-- R125 with R123, R132, R133, R135 and R152: what an advance of the cycle counter does, point by point, when one is due,
the schedule is not STOPPED and the part not LOADING; the engine tests what it may do at its end. A minute of no point
raises the counter. The boundary sets it to 0 and copies written next settings; in REPEAT it takes the snapshot point and the
window opening that lie at minute 0; in SINGLE it stops a RUNNING schedule with no pass, and makes one with a pass STOPPING. The
window close skips the waiting entries, with SNAPSHOT_SKIPPED LATE for each deferral, abandons a pass that is not CLOSING, and
tests for the end of the run. The window opening tests for a new pass and for the end of the run. Where W + D is C the window
closes before the boundary's other effects. The snapshot point visits the entries in roster order, each taken snapshot LIVE at
once on a quiet volume: one whose pass is active is passed with PASS_ACTIVE, outside SERVING an entry is SKIPPED with NOT_SERVING,
and in SERVING its NIGHTLY snapshot is opened, the entry WAITING for it, or it is SKIPPED with OPENING or FULL; on a volume of 24
snapshots the entry becomes WAITING with a deferred take, where one of them is MERGING or unheld in RETIRE_PENDING or, with none
such, the oldest NIGHTLY one LIVE and unheld is retired for it, and else SKIPPED with FULL. (At a snapshot point the state is
`Bounded`, and no request and no restore waits on a quiet volume for its snapshot, here. The settings are such that the window
does not close at minute 0, as valid ones are, R122.) (The model's choice: the count of advances due, the close over a pass in
OPENING, R154, what follows as a snapshot goes LIVE, R53, FULL for a volume whose epochs are used up, and the
epoch 0 of SNAPSHOT_SKIPPED with PASS_ACTIVE and NOT_SERVING, log entries 4, 18, 48, 49 and 63.) -/
def Obligations.CycleAdvanceTakesItsPoints : Prop :=
  ∀ s : State,
    let run := exec .cycleAdvance s
    let c := s.sched
    let due : Prop := 0 < c.advancesDue ∧ c.state ≠ .stopped ∧ s.mgmt.service ≠ .loading
    let n := c.counter + 1
    let part (sched : Schedule) : State := { s with sched := { sched with advancesDue := c.advancesDue - 1 } }
    let risen : Schedule := { c with counter := n }
    let next : Settings := if c.nextWritten then c.next else c.live
    let turned : Schedule := { c with counter := 0, live := next, nextWritten := false }
    let close := c.live.window + c.live.length
    let ready (e : RosterEntry) : Prop :=
      s.isQuiet e.volume = false ∨ s.unawaited e.volume ∨ s.mgmt.service ≠ .serving
    let visitable : Prop := s.Bounded ∧ ∀ e ∈ c.roster, ready e ∨ s.passActive e.volume = true
    (¬due → run = .next s) ∧
    (due → n < c.live.cycle → n ≠ close → (c.state = .stopping ∨ (n ≠ c.live.point ∧ n ≠ c.live.window)) →
      run = .next (part risen).engineTests) ∧
    (due → c.live.cycle ≤ n → close ≠ c.live.cycle → 0 < next.window + next.length →
      ((c.state = .stopping ∨ (c.mode = .repeating ∧ 0 < next.point ∧ 0 < next.window) →
        run = .next (part turned).engineTests) ∧
      (c.mode = .repeating → c.state = .running → next.point = 0 ∨ next.window = 0 → (next.point = 0 → visitable) →
        run = .next (part turned).pointsTaken.engineTests) ∧
      (c.mode = .single → c.state = .running → s.offsite.pass ≠ none →
        run = .next (part { turned with state := .stopping }).engineTests) ∧
      (c.mode = .single → c.state = .running → s.offsite.pass = none → s.rosterDistinct →
        run = .next (State.engineTests (State.testRunEnd (State.raiseLate c.roster
          { s with sched := { turned with state := .stopped, windowOpen := false, advancesDue := 0
                                          roster := c.roster.map RosterEntry.passedOver } })))))) ∧
    (due → n < c.live.cycle → n = close → (c.state = .stopping ∨ (n ≠ c.live.point ∧ n ≠ c.live.window)) → s.rosterDistinct →
      let shut := State.raiseLate c.roster
        (part { risen with windowOpen := false, roster := c.roster.map RosterEntry.passedOver })
      ((∀ p, s.offsite.pass = some p → p.phase ≠ .closing →
        run = .next (State.engineTests (State.testRunEnd (shut.beginAbandon .windowClosed)))) ∧
      ((∀ p, s.offsite.pass = some p → p.phase = .closing) → run = .next (State.engineTests (State.testRunEnd shut))))) ∧
    (due → n < c.live.cycle → n ≠ close → c.state = .running → n = c.live.window → n ≠ c.live.point →
      run = .next (State.engineTests (State.testRunEnd (State.passTest (part
        { risen with windowOpen := true, runOpen := true }))))) ∧
    (due → n < c.live.cycle → n ≠ close → c.state = .running → n = c.live.point → visitable →
      run = .next (part risen).pointsTaken.engineTests) ∧
    (due → c.live.cycle ≤ n → close = c.live.cycle → 0 < next.window + next.length → s.rosterDistinct →
      (next.point = 0 → s.Bounded ∧ ∀ e ∈ c.roster, ready e) →
      let shut := State.raiseLate c.roster (part { c with windowOpen := false, roster := c.roster.map RosterEntry.passedOver })
      let closed := State.testRunEnd (match s.offsite.pass with
        | some p => if p.phase = .closing then shut else shut.beginAbandon .windowClosed
        | none => shut)
      let d := closed.sched
      let begun : State := { closed with sched :=
        { d with counter := 0, live := if d.nextWritten then d.next else d.live, nextWritten := false } }
      run = .next (State.engineTests (State.pointsTaken
        (if c.mode = .single ∧ d.state = .running then
          (if closed.offsite.pass = none then begun.enterStopped
            else { begun with sched := { begun.sched with state := .stopping } })
        else begun)))) ∧
    ∀ (w : Work) (v : Fin 48),
      let t := w.st
      let entry (f : RosterEntry → RosterEntry) (u : State) : State :=
        { u with sched := { u.sched with roster := u.sched.roster.map fun e => if e.volume = v.val then f e else e } }
      let passed (x : PassState) (target : Option Nat) (deferred : Bool) : State → State := entry fun e =>
        { e with pass := x, target := target, deferred := deferred, freed := false }
      let visit := takeSnapVisit v w
      let skipped (reason : Status) : Work :=
        { w with st := (passed .skipped none false t).raise (.snapshotSkipped v reason 0) }
      let active : Prop := ∃ p, t.offsite.pass = some p ∧ p.volume = v
      let e := t.nextEpoch v
      (active → visit = { w with st := t.raise (.snapshotSkipped v .passActive 0) }) ∧
      (¬active → t.mgmt.service ≠ .serving → visit = skipped .notServing) ∧
      (¬active → t.mgmt.service = .serving →
        (t.hasSnap v .opening = true → visit = skipped .opening) ∧
        (t.hasSnap v .opening = false → 768 ≤ t.cat.snaps.length ∨ e = 0 → visit = skipped .full) ∧
        (t.hasSnap v .opening = false → t.cat.snaps.length < 768 → e ≠ 0 →
          ((t.snapsOf v).length < 24 → t.snap? v e = none → ∃ snaps,
            visit = Work.push [.quiet v] { w with st := { passed .waiting (some e) false t with cat :=
              { t.cat with snaps := snaps, nextEpoch := t.cat.nextEpoch.set v.val (if e < 4294967295 then e + 1 else 0) } } } ∧
            snapsWith t.cat.snaps snaps (v.val, e) (some { t.openedSnapshot v none with kind := .nightly })) ∧
          (24 ≤ (t.snapsOf v).length →
            let comesFree : Prop := ∃ x ∈ t.cat.snaps, x.volume = v ∧ (x.state = .merging ∨ (x.state = .retirePending ∧ x.holds = []))
            let fits (x : Snapshot) : Prop := x ∈ t.cat.snaps ∧ x.volume = v ∧ x.kind = .nightly ∧ x.state = .live ∧ x.holds = []
            (comesFree → visit = { w with st := passed .waiting none true t }) ∧
            (¬comesFree → (∀ x, ¬fits x) → visit = skipped .full) ∧
            (∀ x, ¬comesFree → fits x → (∀ y, fits y → y = x ∨ x.epoch < y.epoch) →
              visit = { w with st := passed .waiting none true (State.retire v x.epoch
                (entry (fun e => { e with target := none, deferred := false, freed := false }) t)) }))))

/-! ### Passes, consignments and the offsite link -/

/-- R141 with R151: an ACCEPT that names the pass in OPENING makes it SENDING and lowers the fault counter; any other only
restarts the silence timer. A REJECT with consignment 0, or the end of the answer deadline while the link is UP, is a
failed answer to the frame awaited: it raises the fault counter, and the frame goes again with the next attempt and a new
deadline, or at attempt 3 the pass is abandoned with ATTEMPTS. (The rise leaves the link as it was here.) (The model's
choice: the order of the rise and the failed answer, the expiry as a command, and the silence timer (R156) that a good
frame leaves as it was in SILENT, log entries 4, 17 and 21.) -/
def Obligations.AnswersToPassOpenAndClose : Prop :=
  ∀ (s : State) (n : U32),
    (∀ p, s.offsite.pass = some p → p.number = n.toNat → p.phase = .opening →
      ∃ roster, rosterWith s.sched.roster roster p.volume ((s.roster? p.volume).map fun e => { e with pass := .sending }) ∧
        exec (.accept n) s = .next (State.engineTests
          { s with
            sched := { s.sched with roster := roster }
            offsite := { s.offsite.heard with faultCounter := s.offsite.faultCounter - 1
                                              pass := some { p with phase := .sending, answerDeadline := none } } })) ∧
    ((∀ p, s.offsite.pass = some p → p.number = n.toNat → p.phase ≠ .opening) →
      exec (.accept n) s = .next { s with offsite := s.offsite.heard }) ∧
    (∀ p f, s.offsite.pass = some p → s.awaits p f → s.bearsFault →
      let failed (t : State) : State :=
        if p.answerAttempt < 3 then
          State.sentIfUp f { t with offsite :=
            { t.offsite with
              pass := some { p with answerAttempt := p.answerAttempt + 1, answerDeadline := some s.timers.commitTimeout } } }
        else t.beginAbandon .attempts
      (∀ reason, p.number = n.toNat → exec (.reject n 0 reason) s = .next (State.engineTests (failed
        { s with offsite := { s.offsite.heard with lastReject := some reason, faultCounter := s.offsite.risen } }))) ∧
      (p.answerDeadline = some 0 → s.offsite.link = .up → exec .answerDeadlineExpiry s = .next (State.engineTests (failed
        { s with offsite := { s.offsite with faultCounter := s.offsite.risen } })))) ∧
    ((∀ p, s.offsite.pass = some p → p.answerDeadline ≠ some 0) ∨ s.offsite.link ≠ .up →
      exec .answerDeadlineExpiry s = .next s)

/-- R148 and R149 with R153: a COMMIT that names the pass and a consignment in the window, in any state, takes it out,
counts its records and lowers the fault counter; any other is ignored. A REJECT raises the fault counter and is recorded;
naming a SENT consignment of the pass, or the end of a SENT consignment's deadline while the link is UP, is a failed
attempt: the consignment becomes DUE with its attempt raised, or at attempt 3 the pass is abandoned with ATTEMPTS; while
ABANDONING the consignment leaves the window. One that is DUE or REREADING stays. (The rise leaves the link as it was
here.) A REJECT of consignment 0 while nothing is awaited only raises the fault counter. (The model's choice: the order of
the rise and the failed attempt, the expiry as a command, the silence timer (R156) that a good frame leaves as it was in
SILENT, and the consignment that stays SENT as its third attempt fails, log entries 4, 17, 21 and 59.) -/
def Obligations.ConsignmentsAreCommittedOrFail : Prop :=
  ∀ (s : State) (n k : U32) (reason : Byte),
    let inWindow (c : Consignment) : Prop := (s.offsite.window.find? fun c => c.number = k.toNat) = some c
    let names (p : Pass) : Prop := s.offsite.pass = some p ∧ p.number = n.toNat
    (∀ p c, names p → inWindow c → exec (.commit n k) s = .next (State.engineTests
      { s with offsite :=
        { s.offsite.heard with
          pass := some { p with recordsCommitted := p.recordsCommitted + c.blocks.length }
          window := s.offsite.window.filter fun d => d.number ≠ k.toNat
          faultCounter := s.offsite.faultCounter - 1 } })) ∧
    ((∀ p, ¬names p) ∨ (∀ c ∈ s.offsite.window, c.number ≠ k.toNat) →
      exec (.commit n k) s = .next { s with offsite := s.offsite.heard }) ∧
    (s.bearsFault →
      let raised : State :=
        { s with offsite := { s.offsite.heard with lastReject := some reason, faultCounter := s.offsite.risen } }
      let due : State := { s with offsite := { s.offsite with faultCounter := s.offsite.risen } }
      let failed (p : Pass) (c : Consignment) (t : State) : State :=
        if p.phase = .abandoning then
          { t with offsite := { t.offsite with window := s.offsite.window.filter fun d => d.number ≠ k.toNat } }
        else if c.attempt < 3 then
          { t with offsite := { t.offsite with window := s.offsite.window.map fun d =>
              if d.number = k.toNat then { d with attempt := d.attempt + 1, state := .due } else d } }
        else t.beginAbandon .attempts
      ((∀ p, ¬names p) → exec (.reject n k reason) s = .next raised.engineTests) ∧
      (∀ p c, names p → inWindow c → k ≠ 0 →
        (c.isSent = true → exec (.reject n k reason) s = .next (failed p c raised).engineTests) ∧
        (c.isSent = false → exec (.reject n k reason) s = .next raised.engineTests)) ∧
      ((∀ c ∈ s.offsite.window, c.number ≠ k.toNat) → k ≠ 0 → exec (.reject n k reason) s = .next raised.engineTests) ∧
      (∀ p, names p → k = 0 → (∀ f, ¬s.awaits p f) → exec (.reject n k reason) s = .next raised.engineTests) ∧
      (∀ p c, s.offsite.pass = some p → inWindow c → c.state = .sent 0 → s.offsite.link = .up →
        exec (.consignmentDeadlineExpiry k) s = .next (failed p c due).engineTests)) ∧
    ((∀ c, inWindow c → c.state ≠ .sent 0) ∨ s.offsite.link ≠ .up → exec (.consignmentDeadlineExpiry k) s = .next s)

/-- R153: abandonment. It begins in one event: the roster entry shows ABANDONED without its target, the pass is ABANDONING with
its reason, the in-hand consignment and every consignment that is not SENT are dropped, and the SENT ones too when the link is
not UP; a pass ABANDONING already stays as it is. It ends when the window is empty and no read of the pass is at the mover: PASS
ABANDON is sent if the link is UP, the hold on the target is released, PASS_ENDED is raised with the reason and the pass is gone.
(At the end the schedule is RUNNING here and its window shut, the target is not the base and is LIVE.) -/
def Obligations.AbandonmentBeginsAndEnds : Prop :=
  ∀ (s : State) (p : Pass), s.offsite.pass = some p →
    (∀ reason, p.phase = .abandoning → s.beginAbandon reason = s) ∧
    (∀ reason, p.phase ≠ .abandoning → ∃ roster,
      rosterWith s.sched.roster roster p.volume
        ((s.roster? p.volume).map fun e => { e with pass := .abandoned, target := none }) ∧
      s.beginAbandon reason = State.testAbandonEnd
        { s with
          sched := { s.sched with roster := roster }
          offsite :=
            { s.offsite with
              pass := some { p with phase := .abandoning, reason := some reason, inHand := none, answerDeadline := none }
              window := if s.offsite.link = .up then s.offsite.window.filter Consignment.isSent else [] } }) ∧
    (p.phase ≠ .abandoning ∨ s.offsite.window ≠ [] ∨ (∃ r ∈ s.duplicationReads, r.pass = p.number) →
      s.testAbandonEnd = s) ∧
    (p.phase = .abandoning → s.offsite.window = [] → (∀ r ∈ s.duplicationReads, r.pass ≠ p.number) →
      s.sched.state = .running → s.sched.windowOpen = false → (∀ e, s.roster? p.volume = some e → e.base ≠ p.target) →
      (∀ x, s.snap? p.volume p.target = some x → x.state = .live) → ∃ snaps,
      snapsWith s.cat.snaps snaps (p.volume, p.target)
        ((s.snap? p.volume p.target).map (Snapshot.without .duplication)) ∧
      s.testAbandonEnd =
        let left := State.sentIfUp (.passAbandon p.number) { s with cat := { s.cat with snaps := snaps } }
        State.testRunEnd (({ left with offsite := { left.offsite with pass := none, heldSealed := none } } : State).raise
          (.passEnded p.volume p.reason p.recordsCommitted)))

/-- R142 to R145, R150, R151 and R154: what the engine does next on a pass that is not ABANDONING, one act after another while
one is left (up to 1,024 in an event), and when there is none. A DRAINING pass with an empty window closes with PASS CLOSE; a
SENDING one whose delta has run out drains; a new consignment takes the next delta blocks, up to 64, in ascending order; an
assembled one is sent when the credits suffice; the first DUE consignment is read again before any new one, and sent again
with its attempt; under STOPPING a pass with delta left and nothing in hand is abandoned. Outside SERVING and with the link not
UP nothing is begun or sent; with the credits short, with 16 consignments unconfirmed, with records still to come or an answer
awaited, there is no act. The blocks of a consignment, in hand or re-read, are looked up in order, in every service state, as
far as 64 reads and no COPYING entry let it. A block is looked up at the target: FRESH gives VOID, a SETTLED slot a READ of the
POOL, LIVE a READ of the volume that enters the outstanding-live-read list, and a COPYING entry makes the engine wait. R144,
R150, R153 and R96 with R81: the answer to a read joins its consignment, in hand or re-read, and is discarded when that is
gone; a FAULT or timeout of a read abandons its pass with STORE_FAULT, also where the consignment is gone; a live read leaves
the list and the gates, and the preservations that then wait for nothing more are answered. (No restore is active there, and
nothing else waits in other blocks.) (The model's choice: the timeout as a command, the order of the effects and of the
replies, the cursor after a consignment is begun, the lookups outside SERVING, and no abandonment by a read of a pass that has
ended, log entries 4, 8, 19, 41, 43 and 50.) -/
def Obligations.EngineActsByItsConditions : Prop :=
  (∀ s : State, (s.dupAct = none → ∀ n, State.dupActs n s = s) ∧
    ∀ t, s.dupAct = some t → ∀ n, State.dupActs (n + 1) s = State.dupActs n t) ∧
  (∀ s : State, s.offsite.pass = none → s.engineTests = s.moverEnd) ∧
  (∀ (s : State) (p : Pass), s.offsite.pass = some p → p.phase ≠ .abandoning →
    let withPass (q : Pass) : State := { s with offsite := { s.offsite with pass := some q } }
    let left (c : Nat) : Prop := p.cursor = some c ∧ ∃ b, s.inDelta p c b
    s.engineTests = (State.dupActs 1024 s).moverEnd ∧
    (s.dupAct = none → s.engineTests = s.moverEnd) ∧
    (∀ t, s.dupAct = some t → t.dupAct = none → s.engineTests = t.moverEnd) ∧
    (∀ h, p.inHand = some h → allIn h.records → s.shipping → h.records.length ≤ s.offsite.credits →
      s.dupAct = some
        { s with
          sent := s.sent ++ [.offsite s.offsite.sequence (.consignment p.number h.number 1 (h.records.map sentRecord))]
          offsite :=
            { s.offsite with
              sequence := s.offsite.sequence + 1
              credits := s.offsite.credits - h.records.length
              pass := some { p with inHand := none, recordsSent := p.recordsSent + h.records.length }
              window := s.offsite.window ++
                [{ number := h.number, attempt := 1, blocks := h.records.map (·.1),
                   state := .sent s.timers.commitTimeout }] } }) ∧
    (∀ c l, p.inHand = none → (s.offsite.window.find? fun c => c.isRereading) = some c → c.state = .rereading l → allIn l →
      s.shipping → s.dupAct = some
        { s with
          sent := s.sent ++ [.offsite s.offsite.sequence (.consignment p.number c.number c.attempt (l.map sentRecord))]
          offsite :=
            { s.offsite with
              sequence := s.offsite.sequence + 1
              window := s.offsite.window.map fun d =>
                if d.number = c.number then { d with state := .sent s.timers.commitTimeout } else d } }) ∧
    (p.inHand = none → s.noneReread →
      (∀ c, p.phase = .sending → p.cursor = some c → (∀ b, ¬s.inDelta p c b) →
        s.dupAct = some (withPass { p with cursor := none })) ∧
      (p.phase = .sending → p.cursor = none → ∃ roster,
        rosterWith s.sched.roster roster p.volume ((s.roster? p.volume).map fun e => { e with pass := .draining }) ∧
        s.dupAct = some { withPass { p with phase := .draining } with sched := { s.sched with roster := roster } }) ∧
      (p.phase = .draining → s.offsite.window = [] → s.offsite.heldSealed = none → ∃ roster,
        rosterWith s.sched.roster roster p.volume ((s.roster? p.volume).map fun e => { e with pass := .closing }) ∧
        s.dupAct = some (State.sentIfUp (.passClose p.number p.recordsSent)
          { withPass { p with phase := .closing, answerAttempt := 1, answerDeadline := some s.timers.commitTimeout } with
            sched := { s.sched with roster := roster } })) ∧
      (∀ c, p.phase = .sending → left c → s.sched.state = .stopping → s.dupAct = some (s.beginAbandon .stopped)) ∧
      (∀ d, s.shipping → (s.offsite.window.find? fun c => c.state = .due) = some d →
        (p.phase = .draining ∨ (p.phase = .sending ∧ s.sched.state ≠ .stopping ∧ ∃ c, left c)) →
        s.dupAct = some { s with offsite := { s.offsite with window := s.offsite.window.map fun x =>
          if x.number = d.number then { x with state := .rereading (x.blocks.map fun b => (b, .todo)) } else x } }) ∧
      (∀ c, s.shipping → p.phase = .sending → left c → s.sched.state ≠ .stopping →
        (∀ x ∈ s.offsite.window, x.state ≠ .due) → s.offsite.window.length < 16 → ∃ delta : List Nat,
        (∀ b, b ∈ delta ↔ s.inDelta p c b) ∧
        (s.pres.index.Pairwise (fun a b => entryBefore a b = true) → delta.Pairwise (· < ·)) ∧
        s.dupAct = some (withPass { p with
          nextConsignment := p.nextConsignment + 1
          inHand := some { number := p.nextConsignment, records := (delta.take 64).map fun b => (b, .todo) }
          cursor := (delta.drop 64).head? }))) ∧
    (∀ k b, p.inHand = some { number := k, records := [(b, .todo)] } →
      let put (x : BlockRecord) (mover : Mover) : Option State :=
        some { withPass { p with inHand := some { number := k, records := [(b, x)] } } with mover := mover }
      let read : ReadId := { pass := p.number, consignment := k, block := b }
      let handed (area : Area) (address : Nat) : List StoreOp := s.mover.duplicationQ ++
        [{ op := .read, area := area, address := address, length := 1, thenWrite := none, client := .duplication read }]
      (∀ i, s.lookup p.volume b p.target = .fresh i → s.feedAct p = put .void s.mover) ∧
      (∀ n i o, s.lookup p.volume b p.target = .slot n i o .copying → s.feedAct p = none) ∧
      (∀ n i o, s.lookup p.volume b p.target = .slot n i o .settled → s.duplicationReads.length < 64 →
        s.feedAct p = put .reading { s.mover with duplicationQ := handed .pool n }) ∧
      (s.lookup p.volume b p.target = .live → s.duplicationReads.length < 64 →
        s.feedAct p = put .reading
          { s.mover with
            duplicationQ := handed (.volume p.volume) b
            liveReads := s.mover.liveReads ++ [{ volume := p.volume, block := b, read := read, tag := none }] }) ∧
      (64 ≤ s.duplicationReads.length → (∀ i, s.lookup p.volume b p.target ≠ .fresh i) → s.feedAct p = none)) ∧
    (let whole : Prop := ∀ c, p.cursor = some c → ∃ b, s.inDelta p c b
     (∀ h, p.phase = .sending → p.inHand = some h → whole → s.noneReread →
       (allIn h.records → ¬(s.shipping ∧ h.records.length ≤ s.offsite.credits) → s.dupAct = none) ∧
       (¬allIn h.records → s.feedAct p = none → s.dupAct = none)) ∧
     (∀ c, p.phase = .sending → left c → p.inHand = none → s.sched.state ≠ .stopping → s.noneReread →
       (¬s.shipping ∨ ((∀ x ∈ s.offsite.window, x.state ≠ .due) ∧ 16 ≤ s.offsite.window.length)) → s.dupAct = none) ∧
     (p.phase = .draining → p.inHand = none → s.noneReread → s.offsite.window ≠ [] →
       (¬s.shipping ∨ ∀ x ∈ s.offsite.window, x.state ≠ .due) → s.dupAct = none) ∧
     (p.phase = .opening ∨ p.phase = .closing → p.inHand = none → s.noneReread → s.dupAct = none) ∧
     (∀ c l, (s.offsite.window.find? fun c => c.isRereading) = some c → c.state = .rereading l → p.inHand = none →
       (p.phase = .draining ∨ (p.phase = .sending ∧ s.sched.state ≠ .stopping ∧ ∃ k, left k)) →
       (allIn l → ¬s.shipping → s.dupAct = none) ∧
       (¬allIn l → s.feedAct p = none → s.dupAct = none))) ∧
    ((∀ t, s.feedAct p = some t → s.dupAct = some t) ∧ (p.inHand = none → s.noneReread → s.feedAct p = none)) ∧
    (∀ h, p.inHand = some h → let fed := s.feedBlocks p h.number h.records
      (fed.1 = h.records → s.feedAct p = none) ∧
      (fed.1 ≠ h.records → s.feedAct p = some
        { fed.2 with offsite := { s.offsite with pass := some { p with inHand := some { h with records := fed.1 } } } })) ∧
    (∀ c l, p.inHand = none → (s.offsite.window.find? fun c => c.isRereading) = some c → c.state = .rereading l →
      let fed := s.feedBlocks p c.number l
      (fed.1 = l → s.feedAct p = none) ∧
      (fed.1 ≠ l → s.feedAct p = some
        { fed.2 with offsite := { s.offsite with window := s.offsite.window.map fun d =>
          if d.number = c.number then { d with state := .rereading fed.1 } else d } })) ∧
    (∀ n : Nat, s.feedBlocks p n [] = ([], s) ∧
      ∀ b x rest,
        let on (mark : BlockRecord) (u : State) : Reading × State :=
          ((b, mark) :: (u.feedBlocks p n rest).1, (u.feedBlocks p n rest).2)
        let run := s.feedBlocks p n ((b, x) :: rest)
        let stops : Prop := run = ((b, x) :: rest, s)
        let read : ReadId := { pass := p.number, consignment := n, block := b }
        let handed (area : Area) (address : Nat) (live : List LiveRead) : State :=
          { s with mover := { s.mover with
            duplicationQ := s.mover.duplicationQ ++
              [{ op := .read, area := area, address := address, length := 1, thenWrite := none, client := .duplication read }]
            liveReads := s.mover.liveReads ++ live } }
        (x ≠ .todo → run = on x s) ∧
        (x = .todo →
          (∀ i, s.lookup p.volume b p.target = .fresh i → run = on .void s) ∧
          (∀ k i o, s.lookup p.volume b p.target = .slot k i o .copying → stops) ∧
          (∀ k i o, s.lookup p.volume b p.target = .slot k i o .settled →
            (s.duplicationReads.length < 64 → run = on .reading (handed .pool k [])) ∧
            (64 ≤ s.duplicationReads.length → stops)) ∧
          (s.lookup p.volume b p.target = .live →
            (s.duplicationReads.length < 64 → run = on .reading
              (handed (.volume p.volume) b [{ volume := p.volume, block := b, read := read, tag := none }])) ∧
            (64 ≤ s.duplicationReads.length → stops))))) ∧
  (∀ (s : State) (t : Fin 32) (i : Issued) (read : ReadId), s.mover.tag t = some i → i.phase = .first → i.op.op = .read →
    i.op.thenWrite = none → i.op.client = .duplication read → s.rest.active = [] →
    (∀ x ∈ s.cat.snaps, x.state ≠ .opening) → (∀ v ∈ s.cat.volumes, v.waiting = []) → (∀ l : Link, (s.intake l).held = false) →
    let freed (o : Offsite) : State := { s with offsite := o, mover := { s.mover with tags := s.mover.tags.set t none } }
    let leaves (x : State) : State :=
      let waiting := x.pres.pendings.map fun p => { p with gate := p.gate.filter fun g => g ≠ read }
      match i.op.area with
      | .volume _ =>
        { x with
          mover := { x.mover with liveReads := x.mover.liveReads.filter fun y => y.read ≠ read }
          pres := { x.pres with pendings := waiting.filter fun p => !p.complete }
          sent := x.sent ++ (waiting.filter PendingPreserve.complete).filterMap PendingPreserve.sentReply }
      | _ => x
    let after (x : State) : Host.Outcome State Fault Refusal := .next (State.engineTests (leaves x).testAbandonEnd)
    let named (p : Pass) : Prop := s.offsite.pass = some p ∧ p.number = read.pass
    let inHand (p : Pass) (h : InHand) : Prop := p.inHand = some h ∧ h.number = read.consignment
    (∀ tag seq content, s.answersPhase tag seq t i → content.length = 4096 * i.op.length →
      let join (l : Reading) : Reading := l.map fun x =>
        if x.1 = read.block ∧ x.2 = .reading then (x.1, .data content) else x
      (∀ p h, named p → inHand p h → s.noneReread → exec (.storeData tag seq content) s =
        after (freed { s.offsite with pass := some { p with inHand := some { h with records := join h.records } } })) ∧
      (∀ p, named p → (∀ h, ¬inHand p h) → exec (.storeData tag seq content) s =
        after (freed { s.offsite with window := s.offsite.window.map fun c =>
          match c.state with
          | .rereading l => if c.number = read.consignment then { c with state := .rereading (join l) } else c
          | _ => c })) ∧
      ((∀ p, ¬named p) → exec (.storeData tag seq content) s = after (freed s.offsite))) ∧
    (let failed (cause : FaultCause) (run : Host.Outcome State Fault Refusal) : Prop :=
       let told := (freed s.offsite).raise (.storeFault i.op.area i.op.address .read .first i.op.client cause)
       ((∃ p, named p) → run = after (told.beginAbandon .storeFault)) ∧ ((∀ p, ¬named p) → run = after told)
     (∀ tag seq reason, s.answersPhase tag seq t i → failed (.array reason) (exec (.storeFault tag seq reason) s)) ∧
     (i.remaining = 0 → failed .timeout (exec (.storeTimeout t) s))))

/-- R151 with R179 and R136: a SEALED that names the pass in CLOSING lowers the fault counter, releases the old base's
hold, makes the target the base and the entry DONE, raises PASS_ENDED, runs retention and ends the pass; in SAVING it is
held; any other is ignored but for the silence timer. Retention retires the oldest unheld LIVE NIGHTLY snapshot while the
volume's NIGHTLY snapshots in LIVE or OPENING are more than the keep count. (The old base is LIVE here, the schedule
RUNNING and its window shut.) (The model's choice: the field that keeps a held SEALED, and the silence timer (R156) that a
good frame leaves as it was in SILENT, log entries 20 and 21.) -/
def Obligations.SealMovesTheBaseForward : Prop :=
  (∀ (s : State) (n : U32),
    ((∀ p, s.offsite.pass = some p → p.number = n.toNat → p.phase ≠ .closing) →
      exec (.sealed n) s = .next { s with offsite := s.offsite.heard }) ∧
    (∀ p, s.offsite.pass = some p → p.number = n.toNat → p.phase = .closing →
      (s.mgmt.service = .saving →
        exec (.sealed n) s = .next { s with offsite := { s.offsite.heard with heldSealed := some n.toNat } }) ∧
      (∀ e, s.mgmt.service ≠ .saving → s.roster? p.volume = some e → s.sched.state = .running → s.sched.windowOpen = false →
        (∀ x, s.snap? p.volume p.base = some x → x.state = .live) → ∃ snaps roster,
        snapsWith s.cat.snaps snaps (p.volume, p.base) ((s.snap? p.volume p.base).map (Snapshot.without .duplication)) ∧
        rosterWith s.sched.roster roster p.volume (some { e with base := p.target, target := none, pass := .done }) ∧
        (let nightly := s.cat.snaps.countP fun x =>
           x.volume = p.volume ∧ x.kind = .nightly ∧ (x.state = .live ∨ x.state = .opening)
         let kept := State.retain p.volume e.keep nightly (State.raise (.passEnded p.volume none p.recordsCommitted)
           { s with
             cat := { s.cat with snaps := snaps }
             sched := { s.sched with roster := roster }
             offsite := { s.offsite.heard with faultCounter := s.offsite.faultCounter - 1 } })
         exec (.sealed n) s = .next (State.moverEnd (State.testRunEnd
           { kept with offsite := { kept.offsite with pass := none, heldSealed := none } })))))) ∧
  (∀ (s : State) (v keep count : Nat),
    let fits (x : Snapshot) : Prop := x ∈ s.cat.snaps ∧ x.volume = v ∧ x.kind = .nightly ∧ x.state = .live ∧ x.holds = []
    (count ≤ keep → State.retain v keep count s = s) ∧ ((∀ x, ¬fits x) → State.retain v keep count s = s) ∧
    (∀ x, keep < count → fits x → (∀ y, fits y → y = x ∨ x.epoch < y.epoch) →
      State.retain v keep count s = State.retain v keep (count - 1) (s.retire v x.epoch)))

/-- R155 to R157: the health of the offsite link. A rise of the fault counter above the threshold makes a link that is UP
DEGRADED; the silence time makes it SILENT with the fault counter 0; either empties the probe history, starts the probe
timer, sends a PROBE and raises LINK_CHANGED. The probe timer sends a PROBE every 30 seconds while the link is not UP, an
unanswered one joining the history, and in UP while no answer is awaited. An awaited answer joins the history while the
link is not UP, and with two answered of three the link is UP: the counter and the timer are 0, SENT consignments become
DUE, an awaited frame goes again, and the engine tests for a new pass. (The model's choice: when the history takes an
outcome and when a PROBE goes, and the silence timer in SILENT, log entries 4, 16 and 21.) -/
def Obligations.LinkHealthFollowsFaultsSilenceAndProbes : Prop :=
  ∀ s : State,
    let worse (o : Offsite) (entered : LinkState) : State :=
      (State.probed { s with offsite := { o with link := entered, probeHistory := [], probeTimer := 30 } }).raise
        (.linkChanged s.offsite.link entered o.faultCounter)
    (∀ n k reason, s.offsite.pass = none → s.offsite.link = .up → s.timers.faultThreshold < s.offsite.risen →
      exec (.reject n k reason) s = .next (State.engineTests
        (worse { s.offsite.heard with lastReject := some reason, faultCounter := s.offsite.risen } .degraded))) ∧
    (s.offsite.link = .silent ∨ s.offsite.silence < s.timers.silenceTime → exec .silenceTimeout s = .next s) ∧
    (s.offsite.link ≠ .silent → s.timers.silenceTime ≤ s.offsite.silence →
      exec .silenceTimeout s = .next (State.engineTests (worse
        { s.offsite with
          faultCounter := 0
          window := match s.offsite.pass with
            | some p => if p.phase = .abandoning then [] else s.offsite.window
            | none => s.offsite.window } .silent))) ∧
    (let started : State := { s with offsite := { s.offsite with probeTimer := 30 } }
     let awaiting : Prop := (∃ p f, s.offsite.pass = some p ∧ s.awaits p f) ∨ ∃ c ∈ s.offsite.window, c.isSent = true
     (s.offsite.probeTimer ≠ 0 → exec .probeTimer s = .next s) ∧
     (s.offsite.probeTimer = 0 → s.offsite.link = .up →
       (awaiting → exec .probeTimer s = .next started) ∧ (¬awaiting → exec .probeTimer s = .next started.probed)) ∧
     (s.offsite.probeTimer = 0 → s.offsite.link ≠ .up →
       (s.offsite.awaitedProbe = none → exec .probeTimer s = .next started.probed) ∧
       (s.offsite.awaitedProbe ≠ none → exec .probeTimer s = .next (State.probed
         { s with offsite := { s.offsite with probeTimer := 30, probeHistory := (false :: s.offsite.probeHistory).take 3 } })))) ∧
    (∀ seq,
      (s.offsite.awaitedProbe ≠ some seq → exec (.probeAnswer seq) s = .next { s with offsite := s.offsite.heard }) ∧
      (s.offsite.awaitedProbe = some seq → s.offsite.link = .up →
        exec (.probeAnswer seq) s = .next { s with offsite := { s.offsite.heard with awaitedProbe := none } }) ∧
      (s.offsite.awaitedProbe = some seq → s.offsite.link ≠ .up →
        let history := (true :: s.offsite.probeHistory).take 3
        let up := ({ s with offsite :=
          { s.offsite with
            awaitedProbe := none, probeHistory := history, link := .up, faultCounter := 0, silence := 0
            window := s.offsite.window.map fun c => if c.isSent = true then { c with state := .due } else c } }
          : State).raise (.linkChanged s.offsite.link .up 0)
        (history.countP id < 2 → exec (.probeAnswer seq) s = .next
          { s with offsite := { s.offsite.heard with awaitedProbe := none, probeHistory := history } }) ∧
        (2 ≤ history.countP id →
          ((∀ p f, s.offsite.pass = some p → ¬s.awaits p f) →
            exec (.probeAnswer seq) s = .next (State.engineTests up.passTest)) ∧
          (∀ p f, s.offsite.pass = some p → s.awaits p f → exec (.probeAnswer seq) s = .next (State.engineTests
            (State.sentIfUp f { up with offsite := { up.offsite with
              pass := some { p with answerDeadline := some s.timers.commitTimeout } } }))))))

/-! ### Service states -/

/-- R176, R177 and R182 with R98 and R175: OPEN SERVICE in STARTING or PAUSED makes the part SERVING and the mover OPEN, and
replies OK with the state left, whatever work resumes; with no work held it then tests for a new pass and does nothing more. PAUSE
SERVICE in SERVING makes a part with an idle mover PAUSED, the mover DRAINED and granting what SERVICE operations have waited, and
any other PAUSING, the mover draining; it replies ACCEPTED, and every request that waits at an intake is taken out by the new
state; with none waiting it does nothing more. RESTART in SERVING, PAUSING, PAUSED and SAVING makes the part PAUSED, and the reply is
OK with the state left. In the other states each is answered as its rule gives. (Where the intakes are emptied, and where OPEN
SERVICE does nothing more, the state is `Bounded`.) (The model's choice: the order in which work resumes and the state in an ALREADY
reply, log entries 26 and 27.) -/
def Obligations.ServiceOpensAndPauses : Prop :=
  ∀ (s : State) (seq : U16), s.mgmtReady →
    let entering (entered : ServiceState) (cause : Cause) (mode : MoverMode) : State :=
      ({ s.heard with mgmt := { s.heard.mgmt with service := entered }, mover := { s.mover with mode := mode } } : State).raise
        (.serviceChanged s.mgmt.service entered cause)
    let replied (t : State) (code : Nat) (status : Status) (data : ReplyData) : Prop :=
      t.mgmt.replies = s.mgmt.replies ++ [{ seq := seq, code := code, status := status, flags := 0, data := data }]
    (s.mgmt.service = .serving → exec (.openService seq) s = .next (s.heard.reply seq 44 .ok 8 (.stateLeft .serving))) ∧
    (s.mgmt.service = .pausing ∨ s.mgmt.service = .saving ∨ s.mgmt.service = .loading →
      exec (.openService seq) s = .next (s.heard.reply seq 44 .wrongState 0 .empty)) ∧
    (s.mgmt.service = .starting ∨ s.mgmt.service = .paused →
      (∃ t, exec (.openService seq) s = .next t ∧ t.mgmt.service = .serving ∧ t.mover.mode = .openMode ∧
        replied t 44 .ok (.stateLeft s.mgmt.service)) ∧
      (s.Bounded →
        (∀ v ∈ s.cat.volumes, v.waiting = []) → (∀ x ∈ s.cat.snaps, x.state = .retirePending → x.holds ≠ []) →
        s.rest.queue = [] → s.rest.active = [] → s.offsite.pass = none →
        exec (.openService seq) s = .next (State.moverEnd (State.passTest
          ((entering .serving .openService .openMode).reply seq 44 .ok 0 (.stateLeft s.mgmt.service)))))) ∧
    (s.mgmt.service = .starting ∨ s.mgmt.service = .saving ∨ s.mgmt.service = .loading →
      exec (.pauseService seq) s = .next (s.heard.reply seq 45 .wrongState 0 .empty)) ∧
    (s.mgmt.service = .pausing → exec (.pauseService seq) s = .next (s.heard.reply seq 45 .accepted 8 .empty)) ∧
    (s.mgmt.service = .paused → exec (.pauseService seq) s = .next (s.heard.reply seq 45 .ok 8 .empty)) ∧
    (s.mgmt.service = .serving →
      let idle : Prop := (∀ i : Fin 32, s.mover.tag i = none) ∧ s.mover.preservationQ = [] ∧
        (∀ q ∈ s.mover.restoreQs, q.ops = []) ∧ s.mover.duplicationQ = []
      (∃ t, exec (.pauseService seq) s = .next t ∧ replied t 45 .accepted .empty ∧
        (idle → t.mgmt.service = .paused ∧ t.mover.mode = .drained) ∧
        (¬idle → t.mgmt.service = .pausing ∧ t.mover.mode = .draining) ∧
        (s.Bounded → ∀ l : Link, (t.intake l).queue = [])) ∧
      ((∀ l : Link, (s.intake l).queue = []) →
        (idle → exec (.pauseService seq) s =
          .next ((State.grants 32 (entering .paused .pauseService .drained)).reply seq 45 .accepted 0 .empty)) ∧
        (¬idle → exec (.pauseService seq) s =
          .next ((entering .pausing .pauseService .draining).reply seq 45 .accepted 0 .empty)))) ∧
    (s.mgmt.service = .starting ∨ s.mgmt.service = .loading →
      exec (.restart seq) s = .next (s.heard.reply seq 48 .wrongState 0 .empty)) ∧
    (s.mgmt.service = .serving ∨ s.mgmt.service = .pausing ∨ s.mgmt.service = .paused ∨ s.mgmt.service = .saving →
      ∃ t, exec (.restart seq) s = .next t ∧ t.mgmt.service = .paused ∧ replied t 48 .ok (.stateLeft s.mgmt.service))

/-- R178, R180 and R181 with R92: SAVE TABLES in PAUSED begins with the WRITE of block 0; the WRITE that ends the third
step ends the save OK, and the last operation of a save of which one has faulted ends it STORE_FAULT. LOAD TABLES in
STARTING begins with the READ of block 0; a header that fails its checks ends the load BAD_IMAGE, and a fault of its last
read STORE_FAULT: every staged table takes its power-on value and the part is STARTING again. The last read of an image
whose checks all pass ends the load OK: the tables are installed, a MERGING snapshot as RETIRE_PENDING, the grace of every
owner is evaluated and tested, the pool warnings are evaluated, and the part is PAUSED; an image that fails a check ends
BAD_IMAGE with its group. (No SEALED is held at the ends of the save here.) (The model's choice: STORE_FAULT raised before
SAVE_ENDED and LOAD_ENDED, the count of blocks written, the checks where the spec names none, and the minute a save carries,
log entries 8, 22, 23 and 45.) -/
def Obligations.SavesAndLoadsBeginAndEnd : Prop :=
  ∀ s : State,
    (∀ seq, s.mgmtReady →
      let begun (code : Nat) (entered : ServiceState) (cause : Cause) (job : ImageJob) (op : OpKind) : State :=
        State.moverEnd ((({ s.heard with
          mgmt := { s.heard.mgmt with service := entered, job := some job }
          mover := { s.mover with serviceQ := s.mover.serviceQ ++ [{ op := op, area := .tables, address := 0, length := 1,
                                                                      thenWrite := none, client := .service }] } } : State).raise
          (.serviceChanged s.mgmt.service entered cause)).reply seq code .accepted 0 .empty)
      (s.mgmt.service ≠ .paused → exec (.saveTables seq) s = .next (s.heard.reply seq 46 .wrongState 0 .empty)) ∧
      (s.mgmt.service = .paused → exec (.saveTables seq) s = .next (begun 46 .saving .saveTables
        (.save s.counts s.pres.poolSize s.clock.minute s.counts.extent .unfinished 1 1 0 false) .write)) ∧
      (s.mgmt.service ≠ .starting → exec (.loadTables seq) s = .next (s.heard.reply seq 47 .wrongState 0 .empty)) ∧
      (s.mgmt.service = .starting →
        exec (.loadTables seq) s = .next (begun 47 .loading .loadTables (.load none 1 1 0 false []) .read))) ∧
    (∀ (tag : Byte) (seq : U16) (t : Fin 32) (i : Issued), s.answersPhase tag seq t i → i.phase = .first →
      i.op.thenWrite = none → i.op.client = .service →
      let freed : State := { s with mover := { s.mover with tags := s.mover.tags.set t none }, mgmt := { s.mgmt with job := none } }
      let fault (reason : ArrayReason) : NoticeBody := .storeFault i.op.area i.op.address i.op.op .first .service (.array reason)
      (∀ c size minute extent next out written, i.op.op = .write → s.offsite.heldSealed = none →
        let ended (t : State) (outcome : Status) (n : Nat) : State := State.engineTests
          (({ t with mgmt := { t.mgmt with service := .paused } } : State).raise (.saveEnded outcome n extent) |>.raise
            (.serviceChanged s.mgmt.service .paused .saveEnd))
        (s.mgmt.job = some (.save c size minute extent .complete next out written false) →
          exec (.storeDone tag seq) s = .next (ended freed .ok (written + i.op.length))) ∧
        (∀ step reason faulted, s.mgmt.job = some (.save c size minute extent step next 1 written faulted) →
          exec (.storeFault tag seq reason) s = .next (ended (freed.raise (fault reason)) .storeFault written))) ∧
      (∀ extent next read faulted blocks, i.op.op = .read →
        let failed (t : State) (outcome : Status) (check : CheckGroup) (n : Nat) : State := State.moverEnd
          ((({ t with
            quota := { t.quota with owners := [], policy := Vector.replicate 24 none }
            cat := State.reset.cat, pres := State.reset.pres, sched := State.reset.sched
            mgmt := { t.mgmt with service := .starting } } : State).raise (.loadEnded outcome check n)).raise
            (.serviceChanged s.mgmt.service .starting .loadEnd))
        (∀ reason, s.mgmt.job = some (.load extent next 1 read faulted blocks) →
          exec (.storeFault tag seq reason) s = .next (failed (freed.raise (fault reason)) .storeFault .none read)) ∧
        (∀ content, s.mgmt.job = some (.load none next 1 read false []) → i.op.address = 0 → i.op.length = 1 →
          content.length = 4096 → readHeader content = none →
          exec (.storeData tag seq content) s = .next (failed freed .badImage .header (read + 1))) ∧
        (∀ content n head rest before later h, s.mgmt.job = some (.load (some n) next 1 read false blocks) → n ≤ next →
          content.length = 4096 * i.op.length → blocks = before ++ later → (∀ x ∈ before, x.1 ≤ i.op.address) →
          (∀ x ∈ later, i.op.address < x.1) → before ++ (i.op.address, content) :: later = (0, head) :: rest →
          (∀ x ∈ rest, x.1 ≠ 0) → readHeader head = some h →
          let image := readImage h (rest.map (·.2)).flatten
          (∀ g, image = .error g →
            exec (.storeData tag seq content) s = .next (failed freed .badImage g (read + i.op.length))) ∧
          (∀ t, image = .ok t →
            let installed : State :=
              { freed with
                quota := { s.quota with owners := t.owners, policy := t.policy }
                cat :=
                  { volumes := t.volumes, nextEpoch := t.nextEpoch
                    snaps := t.snaps.map fun x => if x.state = .merging then { x with state := .retirePending } else x }
                pres :=
                  { State.reset.pres with
                    index := t.index, indexLow := decide (8388608 - t.index.length < 524288), poolSize := t.poolSize
                    free := t.free, quarantine := t.quarantine, lowMark := t.lowMark, rescueMinutes := t.rescueMinutes }
                sched :=
                  { State.reset.sched with
                    live := t.live, next := t.next, nextWritten := t.nextWritten, mode := t.mode, counter := t.counter
                    roster := t.roster } }
            let graced := (t.owners.foldl (fun u r => (u.evalGrace r.owner).testGrace r.owner) installed).evalPool
            exec (.storeData tag seq content) s = .next (State.moverEnd
              ((({ graced with mgmt := { graced.mgmt with service := .paused } } : State).raise
                (.loadEnded .ok .none (read + i.op.length))).raise (.serviceChanged s.mgmt.service .paused .loadEnd)))))))

/-- R182 with R17, R40, R54, R62, R84, R99, R120, R138, R159 and R169: RESTART, in SERVING, PAUSING, PAUSED and SAVING, leaves
the part PAUSED with nothing in flight: no operation, request, pending preservation of a link, restore or pass, no SERVER
claim and no COPYING entry. It sends, in this order, NOT_SERVING to each request of an intake, link by link, and to each of a
waiting list, volume by volume; FAULTED to each pending preservation of a link, its faulted blocks those whose entries have
been removed; and PASS ABANDON for a pass on a link that is UP. It keeps every owner record with its settings and origin,
whole where no claim and no COPYING entry names it; the volume table with the merges in progress; the snapshot records, each
LIVE, MERGING or RETIRE_PENDING one in its state (the last may begin its merge), an OPENING one as it was or LIVE, with the
holds that no restore and no pass gives up and the change count less its COPYING entries; the other index entries; the
roster's volumes, keep counts and bases; the schedule settings, a pending copy made, and the cycle counter; the clock, the
timers and the counters. The reply is OK with the state left. Where every claim, pending preservation and snapshot OPENING is
accounted for (`State.Accounted`), no pending preservation is left, no snapshot is OPENING, the claim list is empty and no
owner has anything reserved. In STARTING and LOADING it is refused. (Where bases and snapshots are concerned no SEALED is held
here, and where the roster is, only a deferred take is left due: `EveryStepKeepsTheAccounts`.) (The model's choice: the intakes
answered before the waiting lists, both in ascending order, and the order of the links' FAULTED answers, log entries 37 and 41.) -/
def Obligations.RestartLeavesNothingInFlight : Prop :=
  ∀ (s : State) (seq : U16), s.mgmtReady →
    (s.mgmt.service = .starting ∨ s.mgmt.service = .loading →
      exec (.restart seq) s = .next (s.heard.reply seq 48 .wrongState 0 .empty)) ∧
    (s.mgmt.service ≠ .starting → s.mgmt.service ≠ .loading → ∃ t, exec (.restart seq) s = .next t ∧
      t.mgmt.service = .paused ∧ t.mgmt.queue = [] ∧
      t.mgmt.replies = s.mgmt.replies ++
        [{ seq := seq, code := 48, status := .ok, flags := 0, data := .stateLeft s.mgmt.service }] ∧
      t.mgmt.notices.take s.mgmt.notices.length = s.mgmt.notices ∧
      ((∀ i : Fin 32, t.mover.tag i = none) ∧ t.mover.preservationQ = [] ∧ t.mover.restoreQs = [] ∧ t.mover.duplicationQ = [] ∧
        t.mover.serviceQ = [] ∧ t.mover.liveReads = [] ∧ t.mover.mode = .drained) ∧
      (∀ l : Link, (t.intake l).queue = [] ∧ (t.intake l).held = false ∧ (t.intake l).mark = (s.intake l).mark ∧
        t.copyingPreserves l = 0 ∧ t.openClaims l = 0) ∧
      (∀ p ∈ t.pres.pendings, ∃ id, p.who = .restore id) ∧
      (let slots := (s.pres.index.filter Entry.copying).filterMap Entry.slot?
       let faulted (p : PendingPreserve) : List Nat := ((List.range p.count).map (p.first + ·)).filter fun b =>
         p.faulted.contains b || (p.own ++ p.waitsOn).any fun x => x.1 == b && slots.contains x.2
       let queued : List Sent := (List.finRange 8).flatMap fun l =>
         (s.intake l).queue.map fun x => .server l x.1 (bareReply x.2 .notServing)
       let waiting : List Sent := s.cat.volumes.flatMap fun v => v.waiting.map fun x =>
         .server x.link x.seq (.preserve .notServing x.req.volume.toNat x.req.first.toNat 0 0 0 0 [])
       let cut : List Sent := s.pres.pendings.filterMap fun p => match p.who with
         | .link l n => some (.server l n (.preserve .faulted p.volume p.first p.newCount p.alreadyCount 0 0 (faulted p)))
         | .restore _ => none
       let abandoned : List Sent := match s.offsite.pass with
         | some p => if s.offsite.link = .up ∧ s.offsite.heldSealed = none then
             [.offsite s.offsite.sequence (.passAbandon p.number)] else []
         | none => []
       t.sent = s.sent ++ queued ++ waiting ++ cut ++ abandoned) ∧
      (let settings (r : OwnerRecord) : OwnerRecord := { r with held := 0, reserved := 0, pinned := 0, grace := .within }
       t.quota.owners.map settings = s.quota.owners.map settings ∧
       (∀ r ∈ s.quota.owners, (∀ c ∈ s.quota.claims, c.owner ≠ r.owner) →
         (∀ e ∈ s.pres.index, e.copying = true → e.owner? ≠ some r.owner) → r ∈ t.quota.owners) ∧
       t.quota.policy = s.quota.policy ∧ t.quota.ticketCounter = s.quota.ticketCounter) ∧
      (t.cat.volumes.map (fun v => (v.volume, v.link)) = s.cat.volumes.map (fun v => (v.volume, v.link)) ∧
        (∀ v ∈ t.cat.volumes, v.waiting = []) ∧ t.cat.nextEpoch = s.cat.nextEpoch ∧
        t.cat.snaps.map (fun x => (x.volume, x.epoch, x.kind, x.label)) =
          s.cat.snaps.map (fun x => (x.volume, x.epoch, x.kind, x.label))) ∧
      (s.offsite.heldSealed = none → (s.cat.snaps.map Snapshot.name).Nodup →
        (∀ v ∈ s.cat.volumes, v.merge ≠ none → s.hasSnap v.volume .merging = true →
          ∃ w ∈ t.cat.volumes, w.volume = v.volume ∧ w.merge = v.merge) ∧
        ∀ x ∈ s.cat.snaps, ∃ y ∈ t.cat.snaps, y.name = x.name ∧
          (x.state = .live ∨ x.state = .merging → y.state = x.state) ∧
          (x.state = .retirePending → y.state = .retirePending ∨ y.state = .merging) ∧
          (x.state ≠ .opening → y.creation = x.creation) ∧
          (x.state = .opening → (y.state = .opening ∧ y.creation = x.creation) ∨
            (y.state = .live ∧ y.creation = some s.clock.minute)) ∧
          y.changeCount = x.changeCount -
            s.pres.index.countP (fun e => e.copying && e.volume == x.volume && e.interval == x.epoch) ∧
          (∀ h, h ∈ y.holds ↔ h ∈ x.holds ∧
            (∀ r ∈ s.rest.queue ++ s.rest.active, (r.volume, r.epoch) = x.name → h ≠ .restore r.id) ∧
            (∀ p, s.offsite.pass = some p → (p.volume, p.target) = x.name →
              (∀ e, s.roster? p.volume = some e → e.base ≠ p.target) → h ≠ .duplication))) ∧
      ((∀ e ∈ t.pres.index, e.copying = false) ∧ (∀ e ∈ t.pres.index, e ∈ s.pres.index) ∧
        (∀ e ∈ s.pres.index, e.copying = false → (∀ d ∈ s.pres.index, d.copying = true → d.key ≠ e.key) → e ∈ t.pres.index)) ∧
      (t.pres.poolSize = s.pres.poolSize ∧ t.pres.lowMark = s.pres.lowMark ∧ t.pres.rescueMinutes = s.pres.rescueMinutes ∧
        t.pres.quarantine = s.pres.quarantine ∧
        t.pres.free = s.pres.free ++ (s.pres.index.filter Entry.copying).filterMap Entry.slot?) ∧
      (t.rest.queue = [] ∧ t.rest.active = [] ∧ t.rest.idCounter = s.rest.idCounter) ∧
      (t.offsite.pass = none ∧ t.offsite.window = [] ∧ t.offsite.credits = 0 ∧ t.offsite.faultCounter = 0 ∧
        t.offsite.heldSealed = none ∧ t.offsite.link = s.offsite.link ∧ t.offsite.passCounter = s.offsite.passCounter) ∧
      (t.sched.state = .stopped ∧ t.sched.windowOpen = false ∧ t.sched.runOpen = false ∧ t.sched.mode = s.sched.mode ∧
        t.sched.next = s.sched.next ∧ t.sched.nextWritten = false ∧
        t.sched.live = (if s.sched.nextWritten then s.sched.next else s.sched.live) ∧
        t.sched.counter = (if s.sched.nextWritten = true ∧ s.sched.next.cycle - 1 < s.sched.counter then 0
          else s.sched.counter)) ∧
      (t.sched.roster.map (fun e => (e.volume, e.keep)) = s.sched.roster.map (fun e => (e.volume, e.keep)) ∧
        (∀ e ∈ t.sched.roster, e.pass ≠ .waiting ∧ e.deferred = false) ∧
        (s.offsite.heldSealed = none → s.rosterDistinct → (∀ e ∈ s.sched.roster, e.freed = true → e.deferred = true) →
          t.sched.roster = s.sched.roster.map fun e =>
            RosterEntry.passedOver (if s.passActive e.volume then { e with pass := .abandoned, target := none } else e))) ∧
      (s.Accounted → t.pres.pendings = [] ∧ (∀ x ∈ t.cat.snaps, x.state ≠ .opening) ∧ t.quota.claims = [] ∧
        ∀ r ∈ t.quota.owners, r.reserved = 0) ∧
      t.clock = s.clock ∧ t.timers = s.timers)

/-- R184 and R183: SET TIMERS writes each field that is present, clamped to its range, and replies with all six; SET CLOCK
sets the minute and the seconds, and every owner whose deadline is then due becomes EXPIRED with its notice, in ascending
owner number; the reply carries the minute before. Both are refused in LOADING. (The model's choice: the ascending order, log
entry 46.) -/
def Obligations.TimersAndClockAreSet : Prop :=
  ∀ (s : State) (seq : U16), s.mgmtReady →
    (∀ q : TimersReq,
      (s.mgmt.service = .loading → exec (.setTimers seq q) s = .next (s.heard.reply seq 49 .wrongState 0 .empty)) ∧
      (s.mgmt.service ≠ .loading →
        let put (lo hi : Nat) (x : Option U32) (now : Nat) : Nat := match x with
          | some n => max lo (min n.toNat hi)
          | none => now
        let out (lo hi : Nat) (x : Option U32) : Prop := ∃ n, x = some n ∧ (n.toNat < lo ∨ hi < n.toNat)
        let t : Timers :=
          { claimLifetime := put 5 600 q.claimLifetime s.timers.claimLifetime
            storeTimeout := put 1 30 q.storeTimeout s.timers.storeTimeout
            commitTimeout := put 10 600 q.commitTimeout s.timers.commitTimeout
            silenceTime := put 30 3600 q.silenceTime s.timers.silenceTime
            stallLimit := put 1 120 q.stallLimit s.timers.stallLimit
            faultThreshold := put 1 254 q.faultThreshold s.timers.faultThreshold }
        let clamped := out 5 600 q.claimLifetime ∨ out 1 30 q.storeTimeout ∨ out 10 600 q.commitTimeout ∨
          out 30 3600 q.silenceTime ∨ out 1 120 q.stallLimit ∨ out 1 254 q.faultThreshold
        ∀ flag : Flags, (clamped → flag = 1) → (¬clamped → flag = 0) →
          exec (.setTimers seq q) s = .next (({ s.heard with timers := t } : State).reply seq 49 .ok flag (.timers t)))) ∧
    (∀ minute : U32,
      (s.mgmt.service = .loading → exec (.setClock seq minute) s = .next (s.heard.reply seq 50 .wrongState 0 .empty)) ∧
      (s.mgmt.service ≠ .loading → s.OwnersOrdered → ∀ due : OwnerRecord → Bool,
        (∀ r, due r = true ↔ ∃ d, r.grace = .grace d ∧
          let distance := (d + 4294967296 - minute.toNat) % 4294967296
          (distance = 0 ∨ 43200 < distance)) →
        exec (.setClock seq minute) s = .next (State.reply seq 50 .ok 0 (.number s.clock.minute)
          ((s.quota.owners.filter due).foldl
            (fun t r => t.raise (.graceExpired r.owner (min (r.held + (r.pinned * r.share + 15) / 16) 4294967295) r.soft))
            { s.heard with
              clock := { minute := minute.toNat, seconds := 0 }
              quota :=
                { s.quota with
                  owners := s.quota.owners.map fun r => if due r = true then { r with grace := .expired } else r } }))))
end

