-- ==== Sys2Proof/Laws/State.lean ====
section
/-! SUPPORT. The fields of the state after each update of it: what an update sets, and that it leaves every other
field as it was. Every lemma is true by `rfl` and a `simp` lemma. -/

namespace Sys2Proof.Machine

variable (s : State)

/-! ### Updates of one block -/

@[simp] theorem State.onQuota_clock (f : Quota → Quota) : (s.onQuota f).clock = s.clock := rfl
@[simp] theorem State.onQuota_timers (f : Quota → Quota) : (s.onQuota f).timers = s.timers := rfl
@[simp] theorem State.onQuota_mgmt (f : Quota → Quota) : (s.onQuota f).mgmt = s.mgmt := rfl
@[simp] theorem State.onQuota_links (f : Quota → Quota) : (s.onQuota f).links = s.links := rfl
@[simp] theorem State.onQuota_quota (f : Quota → Quota) : (s.onQuota f).quota = f s.quota := rfl
@[simp] theorem State.onQuota_cat (f : Quota → Quota) : (s.onQuota f).cat = s.cat := rfl
@[simp] theorem State.onQuota_pres (f : Quota → Quota) : (s.onQuota f).pres = s.pres := rfl
@[simp] theorem State.onQuota_mover (f : Quota → Quota) : (s.onQuota f).mover = s.mover := rfl
@[simp] theorem State.onQuota_rest (f : Quota → Quota) : (s.onQuota f).rest = s.rest := rfl
@[simp] theorem State.onQuota_sched (f : Quota → Quota) : (s.onQuota f).sched = s.sched := rfl
@[simp] theorem State.onQuota_offsite (f : Quota → Quota) : (s.onQuota f).offsite = s.offsite := rfl
@[simp] theorem State.onQuota_sent (f : Quota → Quota) : (s.onQuota f).sent = s.sent := rfl
@[simp] theorem State.onQuota_choices (f : Quota → Quota) : (s.onQuota f).choices = s.choices := rfl
@[simp] theorem State.onQuota_pending (f : Quota → Quota) : (s.onQuota f).pending = s.pending := rfl

@[simp] theorem State.onCat_clock (f : Catalogue → Catalogue) : (s.onCat f).clock = s.clock := rfl
@[simp] theorem State.onCat_timers (f : Catalogue → Catalogue) : (s.onCat f).timers = s.timers := rfl
@[simp] theorem State.onCat_mgmt (f : Catalogue → Catalogue) : (s.onCat f).mgmt = s.mgmt := rfl
@[simp] theorem State.onCat_links (f : Catalogue → Catalogue) : (s.onCat f).links = s.links := rfl
@[simp] theorem State.onCat_quota (f : Catalogue → Catalogue) : (s.onCat f).quota = s.quota := rfl
@[simp] theorem State.onCat_cat (f : Catalogue → Catalogue) : (s.onCat f).cat = f s.cat := rfl
@[simp] theorem State.onCat_pres (f : Catalogue → Catalogue) : (s.onCat f).pres = s.pres := rfl
@[simp] theorem State.onCat_mover (f : Catalogue → Catalogue) : (s.onCat f).mover = s.mover := rfl
@[simp] theorem State.onCat_rest (f : Catalogue → Catalogue) : (s.onCat f).rest = s.rest := rfl
@[simp] theorem State.onCat_sched (f : Catalogue → Catalogue) : (s.onCat f).sched = s.sched := rfl
@[simp] theorem State.onCat_offsite (f : Catalogue → Catalogue) : (s.onCat f).offsite = s.offsite := rfl
@[simp] theorem State.onCat_sent (f : Catalogue → Catalogue) : (s.onCat f).sent = s.sent := rfl
@[simp] theorem State.onCat_choices (f : Catalogue → Catalogue) : (s.onCat f).choices = s.choices := rfl
@[simp] theorem State.onCat_pending (f : Catalogue → Catalogue) : (s.onCat f).pending = s.pending := rfl

@[simp] theorem State.onPres_clock (f : Preservation → Preservation) : (s.onPres f).clock = s.clock := rfl
@[simp] theorem State.onPres_timers (f : Preservation → Preservation) : (s.onPres f).timers = s.timers := rfl
@[simp] theorem State.onPres_mgmt (f : Preservation → Preservation) : (s.onPres f).mgmt = s.mgmt := rfl
@[simp] theorem State.onPres_links (f : Preservation → Preservation) : (s.onPres f).links = s.links := rfl
@[simp] theorem State.onPres_quota (f : Preservation → Preservation) : (s.onPres f).quota = s.quota := rfl
@[simp] theorem State.onPres_cat (f : Preservation → Preservation) : (s.onPres f).cat = s.cat := rfl
@[simp] theorem State.onPres_pres (f : Preservation → Preservation) : (s.onPres f).pres = f s.pres := rfl
@[simp] theorem State.onPres_mover (f : Preservation → Preservation) : (s.onPres f).mover = s.mover := rfl
@[simp] theorem State.onPres_rest (f : Preservation → Preservation) : (s.onPres f).rest = s.rest := rfl
@[simp] theorem State.onPres_sched (f : Preservation → Preservation) : (s.onPres f).sched = s.sched := rfl
@[simp] theorem State.onPres_offsite (f : Preservation → Preservation) : (s.onPres f).offsite = s.offsite := rfl
@[simp] theorem State.onPres_sent (f : Preservation → Preservation) : (s.onPres f).sent = s.sent := rfl
@[simp] theorem State.onPres_choices (f : Preservation → Preservation) : (s.onPres f).choices = s.choices := rfl
@[simp] theorem State.onPres_pending (f : Preservation → Preservation) : (s.onPres f).pending = s.pending := rfl

@[simp] theorem State.onMover_clock (f : Mover → Mover) : (s.onMover f).clock = s.clock := rfl
@[simp] theorem State.onMover_timers (f : Mover → Mover) : (s.onMover f).timers = s.timers := rfl
@[simp] theorem State.onMover_mgmt (f : Mover → Mover) : (s.onMover f).mgmt = s.mgmt := rfl
@[simp] theorem State.onMover_links (f : Mover → Mover) : (s.onMover f).links = s.links := rfl
@[simp] theorem State.onMover_quota (f : Mover → Mover) : (s.onMover f).quota = s.quota := rfl
@[simp] theorem State.onMover_cat (f : Mover → Mover) : (s.onMover f).cat = s.cat := rfl
@[simp] theorem State.onMover_pres (f : Mover → Mover) : (s.onMover f).pres = s.pres := rfl
@[simp] theorem State.onMover_mover (f : Mover → Mover) : (s.onMover f).mover = f s.mover := rfl
@[simp] theorem State.onMover_rest (f : Mover → Mover) : (s.onMover f).rest = s.rest := rfl
@[simp] theorem State.onMover_sched (f : Mover → Mover) : (s.onMover f).sched = s.sched := rfl
@[simp] theorem State.onMover_offsite (f : Mover → Mover) : (s.onMover f).offsite = s.offsite := rfl
@[simp] theorem State.onMover_sent (f : Mover → Mover) : (s.onMover f).sent = s.sent := rfl
@[simp] theorem State.onMover_choices (f : Mover → Mover) : (s.onMover f).choices = s.choices := rfl
@[simp] theorem State.onMover_pending (f : Mover → Mover) : (s.onMover f).pending = s.pending := rfl

@[simp] theorem State.onRest_clock (f : RestoreEngine → RestoreEngine) : (s.onRest f).clock = s.clock := rfl
@[simp] theorem State.onRest_timers (f : RestoreEngine → RestoreEngine) : (s.onRest f).timers = s.timers := rfl
@[simp] theorem State.onRest_mgmt (f : RestoreEngine → RestoreEngine) : (s.onRest f).mgmt = s.mgmt := rfl
@[simp] theorem State.onRest_links (f : RestoreEngine → RestoreEngine) : (s.onRest f).links = s.links := rfl
@[simp] theorem State.onRest_quota (f : RestoreEngine → RestoreEngine) : (s.onRest f).quota = s.quota := rfl
@[simp] theorem State.onRest_cat (f : RestoreEngine → RestoreEngine) : (s.onRest f).cat = s.cat := rfl
@[simp] theorem State.onRest_pres (f : RestoreEngine → RestoreEngine) : (s.onRest f).pres = s.pres := rfl
@[simp] theorem State.onRest_mover (f : RestoreEngine → RestoreEngine) : (s.onRest f).mover = s.mover := rfl
@[simp] theorem State.onRest_rest (f : RestoreEngine → RestoreEngine) : (s.onRest f).rest = f s.rest := rfl
@[simp] theorem State.onRest_sched (f : RestoreEngine → RestoreEngine) : (s.onRest f).sched = s.sched := rfl
@[simp] theorem State.onRest_offsite (f : RestoreEngine → RestoreEngine) : (s.onRest f).offsite = s.offsite := rfl
@[simp] theorem State.onRest_sent (f : RestoreEngine → RestoreEngine) : (s.onRest f).sent = s.sent := rfl
@[simp] theorem State.onRest_choices (f : RestoreEngine → RestoreEngine) : (s.onRest f).choices = s.choices := rfl
@[simp] theorem State.onRest_pending (f : RestoreEngine → RestoreEngine) : (s.onRest f).pending = s.pending := rfl

@[simp] theorem State.onSched_clock (f : Schedule → Schedule) : (s.onSched f).clock = s.clock := rfl
@[simp] theorem State.onSched_timers (f : Schedule → Schedule) : (s.onSched f).timers = s.timers := rfl
@[simp] theorem State.onSched_mgmt (f : Schedule → Schedule) : (s.onSched f).mgmt = s.mgmt := rfl
@[simp] theorem State.onSched_links (f : Schedule → Schedule) : (s.onSched f).links = s.links := rfl
@[simp] theorem State.onSched_quota (f : Schedule → Schedule) : (s.onSched f).quota = s.quota := rfl
@[simp] theorem State.onSched_cat (f : Schedule → Schedule) : (s.onSched f).cat = s.cat := rfl
@[simp] theorem State.onSched_pres (f : Schedule → Schedule) : (s.onSched f).pres = s.pres := rfl
@[simp] theorem State.onSched_mover (f : Schedule → Schedule) : (s.onSched f).mover = s.mover := rfl
@[simp] theorem State.onSched_rest (f : Schedule → Schedule) : (s.onSched f).rest = s.rest := rfl
@[simp] theorem State.onSched_sched (f : Schedule → Schedule) : (s.onSched f).sched = f s.sched := rfl
@[simp] theorem State.onSched_offsite (f : Schedule → Schedule) : (s.onSched f).offsite = s.offsite := rfl
@[simp] theorem State.onSched_sent (f : Schedule → Schedule) : (s.onSched f).sent = s.sent := rfl
@[simp] theorem State.onSched_choices (f : Schedule → Schedule) : (s.onSched f).choices = s.choices := rfl
@[simp] theorem State.onSched_pending (f : Schedule → Schedule) : (s.onSched f).pending = s.pending := rfl

@[simp] theorem State.onOffsite_clock (f : Offsite → Offsite) : (s.onOffsite f).clock = s.clock := rfl
@[simp] theorem State.onOffsite_timers (f : Offsite → Offsite) : (s.onOffsite f).timers = s.timers := rfl
@[simp] theorem State.onOffsite_mgmt (f : Offsite → Offsite) : (s.onOffsite f).mgmt = s.mgmt := rfl
@[simp] theorem State.onOffsite_links (f : Offsite → Offsite) : (s.onOffsite f).links = s.links := rfl
@[simp] theorem State.onOffsite_quota (f : Offsite → Offsite) : (s.onOffsite f).quota = s.quota := rfl
@[simp] theorem State.onOffsite_cat (f : Offsite → Offsite) : (s.onOffsite f).cat = s.cat := rfl
@[simp] theorem State.onOffsite_pres (f : Offsite → Offsite) : (s.onOffsite f).pres = s.pres := rfl
@[simp] theorem State.onOffsite_mover (f : Offsite → Offsite) : (s.onOffsite f).mover = s.mover := rfl
@[simp] theorem State.onOffsite_rest (f : Offsite → Offsite) : (s.onOffsite f).rest = s.rest := rfl
@[simp] theorem State.onOffsite_sched (f : Offsite → Offsite) : (s.onOffsite f).sched = s.sched := rfl
@[simp] theorem State.onOffsite_offsite (f : Offsite → Offsite) : (s.onOffsite f).offsite = f s.offsite := rfl
@[simp] theorem State.onOffsite_sent (f : Offsite → Offsite) : (s.onOffsite f).sent = s.sent := rfl
@[simp] theorem State.onOffsite_choices (f : Offsite → Offsite) : (s.onOffsite f).choices = s.choices := rfl
@[simp] theorem State.onOffsite_pending (f : Offsite → Offsite) : (s.onOffsite f).pending = s.pending := rfl

@[simp] theorem State.onMgmt_clock (f : Mgmt → Mgmt) : (s.onMgmt f).clock = s.clock := rfl
@[simp] theorem State.onMgmt_timers (f : Mgmt → Mgmt) : (s.onMgmt f).timers = s.timers := rfl
@[simp] theorem State.onMgmt_mgmt (f : Mgmt → Mgmt) : (s.onMgmt f).mgmt = f s.mgmt := rfl
@[simp] theorem State.onMgmt_links (f : Mgmt → Mgmt) : (s.onMgmt f).links = s.links := rfl
@[simp] theorem State.onMgmt_quota (f : Mgmt → Mgmt) : (s.onMgmt f).quota = s.quota := rfl
@[simp] theorem State.onMgmt_cat (f : Mgmt → Mgmt) : (s.onMgmt f).cat = s.cat := rfl
@[simp] theorem State.onMgmt_pres (f : Mgmt → Mgmt) : (s.onMgmt f).pres = s.pres := rfl
@[simp] theorem State.onMgmt_mover (f : Mgmt → Mgmt) : (s.onMgmt f).mover = s.mover := rfl
@[simp] theorem State.onMgmt_rest (f : Mgmt → Mgmt) : (s.onMgmt f).rest = s.rest := rfl
@[simp] theorem State.onMgmt_sched (f : Mgmt → Mgmt) : (s.onMgmt f).sched = s.sched := rfl
@[simp] theorem State.onMgmt_offsite (f : Mgmt → Mgmt) : (s.onMgmt f).offsite = s.offsite := rfl
@[simp] theorem State.onMgmt_sent (f : Mgmt → Mgmt) : (s.onMgmt f).sent = s.sent := rfl
@[simp] theorem State.onMgmt_choices (f : Mgmt → Mgmt) : (s.onMgmt f).choices = s.choices := rfl
@[simp] theorem State.onMgmt_pending (f : Mgmt → Mgmt) : (s.onMgmt f).pending = s.pending := rfl

@[simp] theorem State.onLink_clock (l : Link) (f : Intake → Intake) : (s.onLink l f).clock = s.clock := rfl
@[simp] theorem State.onLink_timers (l : Link) (f : Intake → Intake) : (s.onLink l f).timers = s.timers := rfl
@[simp] theorem State.onLink_mgmt (l : Link) (f : Intake → Intake) : (s.onLink l f).mgmt = s.mgmt := rfl
@[simp] theorem State.onLink_links (l : Link) (f : Intake → Intake) : (s.onLink l f).links = s.links.set l.val (f s.links[l.val]) l.isLt := rfl
@[simp] theorem State.onLink_quota (l : Link) (f : Intake → Intake) : (s.onLink l f).quota = s.quota := rfl
@[simp] theorem State.onLink_cat (l : Link) (f : Intake → Intake) : (s.onLink l f).cat = s.cat := rfl
@[simp] theorem State.onLink_pres (l : Link) (f : Intake → Intake) : (s.onLink l f).pres = s.pres := rfl
@[simp] theorem State.onLink_mover (l : Link) (f : Intake → Intake) : (s.onLink l f).mover = s.mover := rfl
@[simp] theorem State.onLink_rest (l : Link) (f : Intake → Intake) : (s.onLink l f).rest = s.rest := rfl
@[simp] theorem State.onLink_sched (l : Link) (f : Intake → Intake) : (s.onLink l f).sched = s.sched := rfl
@[simp] theorem State.onLink_offsite (l : Link) (f : Intake → Intake) : (s.onLink l f).offsite = s.offsite := rfl
@[simp] theorem State.onLink_sent (l : Link) (f : Intake → Intake) : (s.onLink l f).sent = s.sent := rfl
@[simp] theorem State.onLink_choices (l : Link) (f : Intake → Intake) : (s.onLink l f).choices = s.choices := rfl
@[simp] theorem State.onLink_pending (l : Link) (f : Intake → Intake) : (s.onLink l f).pending = s.pending := rfl

@[simp] theorem State.send_clock (x : Sent) : (s.send x).clock = s.clock := rfl
@[simp] theorem State.send_timers (x : Sent) : (s.send x).timers = s.timers := rfl
@[simp] theorem State.send_mgmt (x : Sent) : (s.send x).mgmt = s.mgmt := rfl
@[simp] theorem State.send_links (x : Sent) : (s.send x).links = s.links := rfl
@[simp] theorem State.send_quota (x : Sent) : (s.send x).quota = s.quota := rfl
@[simp] theorem State.send_cat (x : Sent) : (s.send x).cat = s.cat := rfl
@[simp] theorem State.send_pres (x : Sent) : (s.send x).pres = s.pres := rfl
@[simp] theorem State.send_mover (x : Sent) : (s.send x).mover = s.mover := rfl
@[simp] theorem State.send_rest (x : Sent) : (s.send x).rest = s.rest := rfl
@[simp] theorem State.send_sched (x : Sent) : (s.send x).sched = s.sched := rfl
@[simp] theorem State.send_offsite (x : Sent) : (s.send x).offsite = s.offsite := rfl
@[simp] theorem State.send_sent (x : Sent) : (s.send x).sent = s.sent ++ [x] := rfl
@[simp] theorem State.send_choices (x : Sent) : (s.send x).choices = s.choices := rfl
@[simp] theorem State.send_pending (x : Sent) : (s.send x).pending = s.pending := rfl

/-! ### Updates that stay within one block -/

@[simp] theorem State.raise_clock (b : NoticeBody) : (s.raise b).clock = s.clock := rfl
@[simp] theorem State.raise_timers (b : NoticeBody) : (s.raise b).timers = s.timers := rfl
@[simp] theorem State.raise_links (b : NoticeBody) : (s.raise b).links = s.links := rfl
@[simp] theorem State.raise_quota (b : NoticeBody) : (s.raise b).quota = s.quota := rfl
@[simp] theorem State.raise_cat (b : NoticeBody) : (s.raise b).cat = s.cat := rfl
@[simp] theorem State.raise_pres (b : NoticeBody) : (s.raise b).pres = s.pres := rfl
@[simp] theorem State.raise_mover (b : NoticeBody) : (s.raise b).mover = s.mover := rfl
@[simp] theorem State.raise_rest (b : NoticeBody) : (s.raise b).rest = s.rest := rfl
@[simp] theorem State.raise_sched (b : NoticeBody) : (s.raise b).sched = s.sched := rfl
@[simp] theorem State.raise_offsite (b : NoticeBody) : (s.raise b).offsite = s.offsite := rfl
@[simp] theorem State.raise_sent (b : NoticeBody) : (s.raise b).sent = s.sent := rfl
@[simp] theorem State.raise_choices (b : NoticeBody) : (s.raise b).choices = s.choices := rfl
@[simp] theorem State.raise_pending (b : NoticeBody) : (s.raise b).pending = s.pending := rfl

@[simp] theorem State.reply_clock (q : U16) (c : Nat) (x : Status) (g : Flags) (d : ReplyData) : (s.reply q c x g d).clock = s.clock := rfl
@[simp] theorem State.reply_timers (q : U16) (c : Nat) (x : Status) (g : Flags) (d : ReplyData) : (s.reply q c x g d).timers = s.timers := rfl
@[simp] theorem State.reply_links (q : U16) (c : Nat) (x : Status) (g : Flags) (d : ReplyData) : (s.reply q c x g d).links = s.links := rfl
@[simp] theorem State.reply_quota (q : U16) (c : Nat) (x : Status) (g : Flags) (d : ReplyData) : (s.reply q c x g d).quota = s.quota := rfl
@[simp] theorem State.reply_cat (q : U16) (c : Nat) (x : Status) (g : Flags) (d : ReplyData) : (s.reply q c x g d).cat = s.cat := rfl
@[simp] theorem State.reply_pres (q : U16) (c : Nat) (x : Status) (g : Flags) (d : ReplyData) : (s.reply q c x g d).pres = s.pres := rfl
@[simp] theorem State.reply_mover (q : U16) (c : Nat) (x : Status) (g : Flags) (d : ReplyData) : (s.reply q c x g d).mover = s.mover := rfl
@[simp] theorem State.reply_rest (q : U16) (c : Nat) (x : Status) (g : Flags) (d : ReplyData) : (s.reply q c x g d).rest = s.rest := rfl
@[simp] theorem State.reply_sched (q : U16) (c : Nat) (x : Status) (g : Flags) (d : ReplyData) : (s.reply q c x g d).sched = s.sched := rfl
@[simp] theorem State.reply_offsite (q : U16) (c : Nat) (x : Status) (g : Flags) (d : ReplyData) : (s.reply q c x g d).offsite = s.offsite := rfl
@[simp] theorem State.reply_sent (q : U16) (c : Nat) (x : Status) (g : Flags) (d : ReplyData) : (s.reply q c x g d).sent = s.sent := rfl
@[simp] theorem State.reply_choices (q : U16) (c : Nat) (x : Status) (g : Flags) (d : ReplyData) : (s.reply q c x g d).choices = s.choices := rfl
@[simp] theorem State.reply_pending (q : U16) (c : Nat) (x : Status) (g : Flags) (d : ReplyData) : (s.reply q c x g d).pending = s.pending := rfl

@[simp] theorem State.answer_clock (l : Link) (q : U16) (r : ServerReply) : (s.answer l q r).clock = s.clock := rfl
@[simp] theorem State.answer_timers (l : Link) (q : U16) (r : ServerReply) : (s.answer l q r).timers = s.timers := rfl
@[simp] theorem State.answer_mgmt (l : Link) (q : U16) (r : ServerReply) : (s.answer l q r).mgmt = s.mgmt := rfl
@[simp] theorem State.answer_links (l : Link) (q : U16) (r : ServerReply) : (s.answer l q r).links = s.links := rfl
@[simp] theorem State.answer_quota (l : Link) (q : U16) (r : ServerReply) : (s.answer l q r).quota = s.quota := rfl
@[simp] theorem State.answer_cat (l : Link) (q : U16) (r : ServerReply) : (s.answer l q r).cat = s.cat := rfl
@[simp] theorem State.answer_pres (l : Link) (q : U16) (r : ServerReply) : (s.answer l q r).pres = s.pres := rfl
@[simp] theorem State.answer_mover (l : Link) (q : U16) (r : ServerReply) : (s.answer l q r).mover = s.mover := rfl
@[simp] theorem State.answer_rest (l : Link) (q : U16) (r : ServerReply) : (s.answer l q r).rest = s.rest := rfl
@[simp] theorem State.answer_sched (l : Link) (q : U16) (r : ServerReply) : (s.answer l q r).sched = s.sched := rfl
@[simp] theorem State.answer_offsite (l : Link) (q : U16) (r : ServerReply) : (s.answer l q r).offsite = s.offsite := rfl
@[simp] theorem State.answer_choices (l : Link) (q : U16) (r : ServerReply) : (s.answer l q r).choices = s.choices := rfl
@[simp] theorem State.answer_pending (l : Link) (q : U16) (r : ServerReply) : (s.answer l q r).pending = s.pending := rfl

@[simp] theorem State.onOwner_clock (n : Nat) (f : OwnerRecord → OwnerRecord) : (s.onOwner n f).clock = s.clock := rfl
@[simp] theorem State.onOwner_timers (n : Nat) (f : OwnerRecord → OwnerRecord) : (s.onOwner n f).timers = s.timers := rfl
@[simp] theorem State.onOwner_mgmt (n : Nat) (f : OwnerRecord → OwnerRecord) : (s.onOwner n f).mgmt = s.mgmt := rfl
@[simp] theorem State.onOwner_links (n : Nat) (f : OwnerRecord → OwnerRecord) : (s.onOwner n f).links = s.links := rfl
@[simp] theorem State.onOwner_cat (n : Nat) (f : OwnerRecord → OwnerRecord) : (s.onOwner n f).cat = s.cat := rfl
@[simp] theorem State.onOwner_pres (n : Nat) (f : OwnerRecord → OwnerRecord) : (s.onOwner n f).pres = s.pres := rfl
@[simp] theorem State.onOwner_mover (n : Nat) (f : OwnerRecord → OwnerRecord) : (s.onOwner n f).mover = s.mover := rfl
@[simp] theorem State.onOwner_rest (n : Nat) (f : OwnerRecord → OwnerRecord) : (s.onOwner n f).rest = s.rest := rfl
@[simp] theorem State.onOwner_sched (n : Nat) (f : OwnerRecord → OwnerRecord) : (s.onOwner n f).sched = s.sched := rfl
@[simp] theorem State.onOwner_offsite (n : Nat) (f : OwnerRecord → OwnerRecord) : (s.onOwner n f).offsite = s.offsite := rfl
@[simp] theorem State.onOwner_sent (n : Nat) (f : OwnerRecord → OwnerRecord) : (s.onOwner n f).sent = s.sent := rfl
@[simp] theorem State.onOwner_choices (n : Nat) (f : OwnerRecord → OwnerRecord) : (s.onOwner n f).choices = s.choices := rfl
@[simp] theorem State.onOwner_pending (n : Nat) (f : OwnerRecord → OwnerRecord) : (s.onOwner n f).pending = s.pending := rfl

@[simp] theorem State.addOwner_clock (r : OwnerRecord) : (s.addOwner r).clock = s.clock := rfl
@[simp] theorem State.addOwner_timers (r : OwnerRecord) : (s.addOwner r).timers = s.timers := rfl
@[simp] theorem State.addOwner_mgmt (r : OwnerRecord) : (s.addOwner r).mgmt = s.mgmt := rfl
@[simp] theorem State.addOwner_links (r : OwnerRecord) : (s.addOwner r).links = s.links := rfl
@[simp] theorem State.addOwner_cat (r : OwnerRecord) : (s.addOwner r).cat = s.cat := rfl
@[simp] theorem State.addOwner_pres (r : OwnerRecord) : (s.addOwner r).pres = s.pres := rfl
@[simp] theorem State.addOwner_mover (r : OwnerRecord) : (s.addOwner r).mover = s.mover := rfl
@[simp] theorem State.addOwner_rest (r : OwnerRecord) : (s.addOwner r).rest = s.rest := rfl
@[simp] theorem State.addOwner_sched (r : OwnerRecord) : (s.addOwner r).sched = s.sched := rfl
@[simp] theorem State.addOwner_offsite (r : OwnerRecord) : (s.addOwner r).offsite = s.offsite := rfl
@[simp] theorem State.addOwner_sent (r : OwnerRecord) : (s.addOwner r).sent = s.sent := rfl
@[simp] theorem State.addOwner_choices (r : OwnerRecord) : (s.addOwner r).choices = s.choices := rfl
@[simp] theorem State.addOwner_pending (r : OwnerRecord) : (s.addOwner r).pending = s.pending := rfl

@[simp] theorem State.setPolicyRow_clock (i : Nat) (r : Option PolicyRow) : (s.setPolicyRow i r).clock = s.clock := rfl
@[simp] theorem State.setPolicyRow_timers (i : Nat) (r : Option PolicyRow) : (s.setPolicyRow i r).timers = s.timers := rfl
@[simp] theorem State.setPolicyRow_mgmt (i : Nat) (r : Option PolicyRow) : (s.setPolicyRow i r).mgmt = s.mgmt := rfl
@[simp] theorem State.setPolicyRow_links (i : Nat) (r : Option PolicyRow) : (s.setPolicyRow i r).links = s.links := rfl
@[simp] theorem State.setPolicyRow_cat (i : Nat) (r : Option PolicyRow) : (s.setPolicyRow i r).cat = s.cat := rfl
@[simp] theorem State.setPolicyRow_pres (i : Nat) (r : Option PolicyRow) : (s.setPolicyRow i r).pres = s.pres := rfl
@[simp] theorem State.setPolicyRow_mover (i : Nat) (r : Option PolicyRow) : (s.setPolicyRow i r).mover = s.mover := rfl
@[simp] theorem State.setPolicyRow_rest (i : Nat) (r : Option PolicyRow) : (s.setPolicyRow i r).rest = s.rest := rfl
@[simp] theorem State.setPolicyRow_sched (i : Nat) (r : Option PolicyRow) : (s.setPolicyRow i r).sched = s.sched := rfl
@[simp] theorem State.setPolicyRow_offsite (i : Nat) (r : Option PolicyRow) : (s.setPolicyRow i r).offsite = s.offsite := rfl
@[simp] theorem State.setPolicyRow_sent (i : Nat) (r : Option PolicyRow) : (s.setPolicyRow i r).sent = s.sent := rfl
@[simp] theorem State.setPolicyRow_choices (i : Nat) (r : Option PolicyRow) : (s.setPolicyRow i r).choices = s.choices := rfl
@[simp] theorem State.setPolicyRow_pending (i : Nat) (r : Option PolicyRow) : (s.setPolicyRow i r).pending = s.pending := rfl

@[simp] theorem State.onVolume_clock (v : Nat) (f : Volume → Volume) : (s.onVolume v f).clock = s.clock := rfl
@[simp] theorem State.onVolume_timers (v : Nat) (f : Volume → Volume) : (s.onVolume v f).timers = s.timers := rfl
@[simp] theorem State.onVolume_mgmt (v : Nat) (f : Volume → Volume) : (s.onVolume v f).mgmt = s.mgmt := rfl
@[simp] theorem State.onVolume_links (v : Nat) (f : Volume → Volume) : (s.onVolume v f).links = s.links := rfl
@[simp] theorem State.onVolume_quota (v : Nat) (f : Volume → Volume) : (s.onVolume v f).quota = s.quota := rfl
@[simp] theorem State.onVolume_pres (v : Nat) (f : Volume → Volume) : (s.onVolume v f).pres = s.pres := rfl
@[simp] theorem State.onVolume_mover (v : Nat) (f : Volume → Volume) : (s.onVolume v f).mover = s.mover := rfl
@[simp] theorem State.onVolume_rest (v : Nat) (f : Volume → Volume) : (s.onVolume v f).rest = s.rest := rfl
@[simp] theorem State.onVolume_sched (v : Nat) (f : Volume → Volume) : (s.onVolume v f).sched = s.sched := rfl
@[simp] theorem State.onVolume_offsite (v : Nat) (f : Volume → Volume) : (s.onVolume v f).offsite = s.offsite := rfl
@[simp] theorem State.onVolume_sent (v : Nat) (f : Volume → Volume) : (s.onVolume v f).sent = s.sent := rfl
@[simp] theorem State.onVolume_choices (v : Nat) (f : Volume → Volume) : (s.onVolume v f).choices = s.choices := rfl
@[simp] theorem State.onVolume_pending (v : Nat) (f : Volume → Volume) : (s.onVolume v f).pending = s.pending := rfl

@[simp] theorem State.onSnap_clock (v e : Nat) (f : Snapshot → Snapshot) : (s.onSnap v e f).clock = s.clock := rfl
@[simp] theorem State.onSnap_timers (v e : Nat) (f : Snapshot → Snapshot) : (s.onSnap v e f).timers = s.timers := rfl
@[simp] theorem State.onSnap_mgmt (v e : Nat) (f : Snapshot → Snapshot) : (s.onSnap v e f).mgmt = s.mgmt := rfl
@[simp] theorem State.onSnap_links (v e : Nat) (f : Snapshot → Snapshot) : (s.onSnap v e f).links = s.links := rfl
@[simp] theorem State.onSnap_quota (v e : Nat) (f : Snapshot → Snapshot) : (s.onSnap v e f).quota = s.quota := rfl
@[simp] theorem State.onSnap_pres (v e : Nat) (f : Snapshot → Snapshot) : (s.onSnap v e f).pres = s.pres := rfl
@[simp] theorem State.onSnap_mover (v e : Nat) (f : Snapshot → Snapshot) : (s.onSnap v e f).mover = s.mover := rfl
@[simp] theorem State.onSnap_rest (v e : Nat) (f : Snapshot → Snapshot) : (s.onSnap v e f).rest = s.rest := rfl
@[simp] theorem State.onSnap_sched (v e : Nat) (f : Snapshot → Snapshot) : (s.onSnap v e f).sched = s.sched := rfl
@[simp] theorem State.onSnap_offsite (v e : Nat) (f : Snapshot → Snapshot) : (s.onSnap v e f).offsite = s.offsite := rfl
@[simp] theorem State.onSnap_sent (v e : Nat) (f : Snapshot → Snapshot) : (s.onSnap v e f).sent = s.sent := rfl
@[simp] theorem State.onSnap_choices (v e : Nat) (f : Snapshot → Snapshot) : (s.onSnap v e f).choices = s.choices := rfl
@[simp] theorem State.onSnap_pending (v e : Nat) (f : Snapshot → Snapshot) : (s.onSnap v e f).pending = s.pending := rfl

@[simp] theorem State.onActive_clock (n : Nat) (f : Restore → Restore) : (s.onActive n f).clock = s.clock := rfl
@[simp] theorem State.onActive_timers (n : Nat) (f : Restore → Restore) : (s.onActive n f).timers = s.timers := rfl
@[simp] theorem State.onActive_mgmt (n : Nat) (f : Restore → Restore) : (s.onActive n f).mgmt = s.mgmt := rfl
@[simp] theorem State.onActive_links (n : Nat) (f : Restore → Restore) : (s.onActive n f).links = s.links := rfl
@[simp] theorem State.onActive_quota (n : Nat) (f : Restore → Restore) : (s.onActive n f).quota = s.quota := rfl
@[simp] theorem State.onActive_cat (n : Nat) (f : Restore → Restore) : (s.onActive n f).cat = s.cat := rfl
@[simp] theorem State.onActive_pres (n : Nat) (f : Restore → Restore) : (s.onActive n f).pres = s.pres := rfl
@[simp] theorem State.onActive_mover (n : Nat) (f : Restore → Restore) : (s.onActive n f).mover = s.mover := rfl
@[simp] theorem State.onActive_sched (n : Nat) (f : Restore → Restore) : (s.onActive n f).sched = s.sched := rfl
@[simp] theorem State.onActive_offsite (n : Nat) (f : Restore → Restore) : (s.onActive n f).offsite = s.offsite := rfl
@[simp] theorem State.onActive_sent (n : Nat) (f : Restore → Restore) : (s.onActive n f).sent = s.sent := rfl
@[simp] theorem State.onActive_choices (n : Nat) (f : Restore → Restore) : (s.onActive n f).choices = s.choices := rfl
@[simp] theorem State.onActive_pending (n : Nat) (f : Restore → Restore) : (s.onActive n f).pending = s.pending := rfl

@[simp] theorem State.onRoster_clock (v : Nat) (f : RosterEntry → RosterEntry) : (s.onRoster v f).clock = s.clock := rfl
@[simp] theorem State.onRoster_timers (v : Nat) (f : RosterEntry → RosterEntry) : (s.onRoster v f).timers = s.timers := rfl
@[simp] theorem State.onRoster_mgmt (v : Nat) (f : RosterEntry → RosterEntry) : (s.onRoster v f).mgmt = s.mgmt := rfl
@[simp] theorem State.onRoster_links (v : Nat) (f : RosterEntry → RosterEntry) : (s.onRoster v f).links = s.links := rfl
@[simp] theorem State.onRoster_quota (v : Nat) (f : RosterEntry → RosterEntry) : (s.onRoster v f).quota = s.quota := rfl
@[simp] theorem State.onRoster_cat (v : Nat) (f : RosterEntry → RosterEntry) : (s.onRoster v f).cat = s.cat := rfl
@[simp] theorem State.onRoster_pres (v : Nat) (f : RosterEntry → RosterEntry) : (s.onRoster v f).pres = s.pres := rfl
@[simp] theorem State.onRoster_mover (v : Nat) (f : RosterEntry → RosterEntry) : (s.onRoster v f).mover = s.mover := rfl
@[simp] theorem State.onRoster_rest (v : Nat) (f : RosterEntry → RosterEntry) : (s.onRoster v f).rest = s.rest := rfl
@[simp] theorem State.onRoster_offsite (v : Nat) (f : RosterEntry → RosterEntry) : (s.onRoster v f).offsite = s.offsite := rfl
@[simp] theorem State.onRoster_sent (v : Nat) (f : RosterEntry → RosterEntry) : (s.onRoster v f).sent = s.sent := rfl
@[simp] theorem State.onRoster_choices (v : Nat) (f : RosterEntry → RosterEntry) : (s.onRoster v f).choices = s.choices := rfl
@[simp] theorem State.onRoster_pending (v : Nat) (f : RosterEntry → RosterEntry) : (s.onRoster v f).pending = s.pending := rfl

@[simp] theorem State.onPass_clock (f : Pass → Pass) : (s.onPass f).clock = s.clock := rfl
@[simp] theorem State.onPass_timers (f : Pass → Pass) : (s.onPass f).timers = s.timers := rfl
@[simp] theorem State.onPass_mgmt (f : Pass → Pass) : (s.onPass f).mgmt = s.mgmt := rfl
@[simp] theorem State.onPass_links (f : Pass → Pass) : (s.onPass f).links = s.links := rfl
@[simp] theorem State.onPass_quota (f : Pass → Pass) : (s.onPass f).quota = s.quota := rfl
@[simp] theorem State.onPass_cat (f : Pass → Pass) : (s.onPass f).cat = s.cat := rfl
@[simp] theorem State.onPass_pres (f : Pass → Pass) : (s.onPass f).pres = s.pres := rfl
@[simp] theorem State.onPass_mover (f : Pass → Pass) : (s.onPass f).mover = s.mover := rfl
@[simp] theorem State.onPass_rest (f : Pass → Pass) : (s.onPass f).rest = s.rest := rfl
@[simp] theorem State.onPass_sched (f : Pass → Pass) : (s.onPass f).sched = s.sched := rfl
@[simp] theorem State.onPass_sent (f : Pass → Pass) : (s.onPass f).sent = s.sent := rfl
@[simp] theorem State.onPass_choices (f : Pass → Pass) : (s.onPass f).choices = s.choices := rfl
@[simp] theorem State.onPass_pending (f : Pass → Pass) : (s.onPass f).pending = s.pending := rfl

@[simp] theorem State.onJob_clock (j : Option ImageJob) : (s.onJob j).clock = s.clock := rfl
@[simp] theorem State.onJob_timers (j : Option ImageJob) : (s.onJob j).timers = s.timers := rfl
@[simp] theorem State.onJob_links (j : Option ImageJob) : (s.onJob j).links = s.links := rfl
@[simp] theorem State.onJob_quota (j : Option ImageJob) : (s.onJob j).quota = s.quota := rfl
@[simp] theorem State.onJob_cat (j : Option ImageJob) : (s.onJob j).cat = s.cat := rfl
@[simp] theorem State.onJob_pres (j : Option ImageJob) : (s.onJob j).pres = s.pres := rfl
@[simp] theorem State.onJob_mover (j : Option ImageJob) : (s.onJob j).mover = s.mover := rfl
@[simp] theorem State.onJob_rest (j : Option ImageJob) : (s.onJob j).rest = s.rest := rfl
@[simp] theorem State.onJob_sched (j : Option ImageJob) : (s.onJob j).sched = s.sched := rfl
@[simp] theorem State.onJob_offsite (j : Option ImageJob) : (s.onJob j).offsite = s.offsite := rfl
@[simp] theorem State.onJob_sent (j : Option ImageJob) : (s.onJob j).sent = s.sent := rfl
@[simp] theorem State.onJob_choices (j : Option ImageJob) : (s.onJob j).choices = s.choices := rfl
@[simp] theorem State.onJob_pending (j : Option ImageJob) : (s.onJob j).pending = s.pending := rfl

@[simp] theorem State.freeTag_clock (t : Fin 32) : (s.freeTag t).clock = s.clock := rfl
@[simp] theorem State.freeTag_timers (t : Fin 32) : (s.freeTag t).timers = s.timers := rfl
@[simp] theorem State.freeTag_mgmt (t : Fin 32) : (s.freeTag t).mgmt = s.mgmt := rfl
@[simp] theorem State.freeTag_links (t : Fin 32) : (s.freeTag t).links = s.links := rfl
@[simp] theorem State.freeTag_quota (t : Fin 32) : (s.freeTag t).quota = s.quota := rfl
@[simp] theorem State.freeTag_cat (t : Fin 32) : (s.freeTag t).cat = s.cat := rfl
@[simp] theorem State.freeTag_pres (t : Fin 32) : (s.freeTag t).pres = s.pres := rfl
@[simp] theorem State.freeTag_rest (t : Fin 32) : (s.freeTag t).rest = s.rest := rfl
@[simp] theorem State.freeTag_sched (t : Fin 32) : (s.freeTag t).sched = s.sched := rfl
@[simp] theorem State.freeTag_offsite (t : Fin 32) : (s.freeTag t).offsite = s.offsite := rfl
@[simp] theorem State.freeTag_sent (t : Fin 32) : (s.freeTag t).sent = s.sent := rfl
@[simp] theorem State.freeTag_choices (t : Fin 32) : (s.freeTag t).choices = s.choices := rfl
@[simp] theorem State.freeTag_pending (t : Fin 32) : (s.freeTag t).pending = s.pending := rfl

@[simp] theorem State.onPendings_clock (f : PendingPreserve → PendingPreserve) : (s.onPendings f).clock = s.clock := rfl
@[simp] theorem State.onPendings_timers (f : PendingPreserve → PendingPreserve) : (s.onPendings f).timers = s.timers := rfl
@[simp] theorem State.onPendings_mgmt (f : PendingPreserve → PendingPreserve) : (s.onPendings f).mgmt = s.mgmt := rfl
@[simp] theorem State.onPendings_links (f : PendingPreserve → PendingPreserve) : (s.onPendings f).links = s.links := rfl
@[simp] theorem State.onPendings_quota (f : PendingPreserve → PendingPreserve) : (s.onPendings f).quota = s.quota := rfl
@[simp] theorem State.onPendings_cat (f : PendingPreserve → PendingPreserve) : (s.onPendings f).cat = s.cat := rfl
@[simp] theorem State.onPendings_mover (f : PendingPreserve → PendingPreserve) : (s.onPendings f).mover = s.mover := rfl
@[simp] theorem State.onPendings_rest (f : PendingPreserve → PendingPreserve) : (s.onPendings f).rest = s.rest := rfl
@[simp] theorem State.onPendings_sched (f : PendingPreserve → PendingPreserve) : (s.onPendings f).sched = s.sched := rfl
@[simp] theorem State.onPendings_offsite (f : PendingPreserve → PendingPreserve) : (s.onPendings f).offsite = s.offsite := rfl
@[simp] theorem State.onPendings_sent (f : PendingPreserve → PendingPreserve) : (s.onPendings f).sent = s.sent := rfl
@[simp] theorem State.onPendings_choices (f : PendingPreserve → PendingPreserve) : (s.onPendings f).choices = s.choices := rfl
@[simp] theorem State.onPendings_pending (f : PendingPreserve → PendingPreserve) : (s.onPendings f).pending = s.pending := rfl

end Sys2Proof.Machine
end

