-- ==== Sys2Proof/Laws/Events.lean ====
section
/-! SUPPORT. How an event runs: the tasks it leaves, one after another, and what holds through all of them; and the two
shapes in which a request is taken the moment it comes in. -/

namespace Sys2Proof.Machine

/-! ### Running the tasks of an event -/

/-- The work comes to an end in `t` within `n` turns of `drive`. -/
def Work.Ends (n : Nat) (w : Work) (t : State) : Prop := ∀ k, n ≤ k → drive k w = t

/-- With no evaluation left there is nothing to evaluate (R23, R72). -/
theorem Work.evaluate_none {w : Work} (o : w.owners = []) (p : w.pool = false) : w.evaluate = w := by
  obtain ⟨st, todo, touched, owners, pool⟩ := w
  simp only at o p
  subst o; subst p
  rfl

/-- One owner's grace and the pool warnings are left to be evaluated (R23, R72). -/
theorem Work.evaluate_one {w : Work} {n : Nat} (o : w.owners = [n]) (p : w.pool = true) :
    w.evaluate.st = (w.st.evalGrace n).evalPool := by
  simp [Work.evaluate, Work.evalOwners, o, p]

theorem Work.ends_plain (w : Work) (h : w.todo = []) (q : w.touched = false) : w.Ends 1 w.evaluate.st := by
  intro k hk
  obtain ⟨k, rfl⟩ : ∃ j, k = j + 1 := ⟨k - 1, by omega⟩
  simp [drive, h, q]

theorem Work.ends_moved (w : Work) (h : w.todo = []) (q : w.touched = true) : w.Ends 1 w.evaluate.st.moverEnd := by
  intro k hk
  obtain ⟨k, rfl⟩ : ∃ j, k = j + 1 := ⟨k - 1, by omega⟩
  simp [drive, h, q]

theorem Work.ends_quiet (w : Work) (h : w.todo = []) (q : w.touched = false) (o : w.owners = []) (p : w.pool = false) :
    w.Ends 1 w.st := by
  have e := w.ends_plain h q
  rwa [Work.evaluate_none o p] at e

theorem Work.ends_touched (w : Work) (h : w.todo = []) (q : w.touched = true) (o : w.owners = []) (p : w.pool = false) :
    w.Ends 1 w.st.moverEnd := by
  have e := w.ends_moved h q
  rwa [Work.evaluate_none o p] at e

/-- One task is done, and what it leaves comes before the tasks behind it. -/
theorem Work.ends_task {n : Nat} {w : Work} {t : Task} {rest : List Task} {u : State} (h : w.todo = t :: rest)
    (step : ({ runTask t { w with todo := [] } with
      todo := (runTask t { w with todo := [] }).todo ++ rest } : Work).Ends n u) : w.Ends (n + 1) u := by
  intro k hk
  obtain ⟨k, rfl⟩ : ∃ j, k = j + 1 := ⟨k - 1, by omega⟩
  simp only [drive, h]
  exact step k (by omega)

/-- An event comes out as its work ends. -/
theorem State.event_of_ends {n : Nat} {f : Work → Work} {s t : State}
    (h : (f { st := s, todo := [], touched := false }).Ends n t) (hn : n ≤ 18446744073709551616) : s.event f = t :=
  h _ hn

/-- A property that the grace evaluation keeps is kept by those of an event (R23). -/
theorem Work.evalOwners_keeps (P : State → Prop) (grace : ∀ n s, P s → P (s.evalGrace n)) (w : Work) (h : P w.st) :
    P w.evalOwners.st := by
  have fold : ∀ (l : List Nat) (s : State), P s → P (l.foldl (fun s n => s.evalGrace n) s) := by
    intro l
    induction l with
    | nil => exact fun _ h => h
    | cons n l ih => exact fun s h => ih _ (grace n s h)
  exact fold _ _ h

/-- A property that both evaluations keep is kept by those of an event (R23, R72). -/
theorem Work.evaluate_keeps (P : State → Prop) (grace : ∀ n s, P s → P (s.evalGrace n)) (pool : ∀ s, P s → P s.evalPool)
    (w : Work) (h : P w.st) : P w.evaluate.st := by
  have e := Work.evalOwners_keeps P grace w h
  simp only [Work.evaluate]
  split
  · exact pool _ e
  · exact e

/-- A property that every task, the evaluations and the mover's test keep is kept by every event. -/
theorem drive_keeps (P : State → Prop) (task : ∀ t w, P w.st → P (runTask t w).st)
    (grace : ∀ n s, P s → P (s.evalGrace n)) (pool : ∀ s, P s → P s.evalPool)
    (mover : ∀ s, P s → P s.moverEnd) : ∀ n w, P w.st → P (drive n w)
  | 0, _, h => h
  | n + 1, w, h => by
    unfold drive
    split
    · split
      · exact mover _ (Work.evaluate_keeps P grace pool w h)
      · exact Work.evaluate_keeps P grace pool w h
    · exact drive_keeps P task grace pool mover n _ (task _ _ h)

/-- The same for an event from its change on. -/
theorem State.event_keeps (P : State → Prop) (task : ∀ t w, P w.st → P (runTask t w).st)
    (grace : ∀ n s, P s → P (s.evalGrace n)) (pool : ∀ s, P s → P s.evalPool)
    (mover : ∀ s, P s → P s.moverEnd) {f : Work → Work} {s : State}
    (h : P (f { st := s, todo := [], touched := false }).st) : P (s.event f) :=
  drive_keeps P task grace pool mover _ _ h

/-! ### A management request taken the moment it comes in -/

@[simp] theorem Work.on_st (f : State → State) (w : Work) : (w.on f).st = f w.st := rfl
@[simp] theorem Work.on_todo (f : State → State) (w : Work) : (w.on f).todo = w.todo := rfl
@[simp] theorem Work.on_touched (f : State → State) (w : Work) : (w.on f).touched = w.touched := rfl
@[simp] theorem Work.push_st (ts : List Task) (w : Work) : (w.push ts).st = w.st := rfl
@[simp] theorem Work.push_todo (ts : List Task) (w : Work) : (w.push ts).todo = w.todo ++ ts := rfl
@[simp] theorem Work.push_touched (ts : List Task) (w : Work) : (w.push ts).touched = w.touched := rfl
@[simp] theorem Work.touch_st (w : Work) : w.touch.st = w.st := rfl
@[simp] theorem Work.touch_todo (w : Work) : w.touch.todo = w.todo := rfl
@[simp] theorem Work.touch_touched (w : Work) : w.touch.touched = true := rfl
@[simp] theorem Work.on_owners (f : State → State) (w : Work) : (w.on f).owners = w.owners := rfl
@[simp] theorem Work.on_pool (f : State → State) (w : Work) : (w.on f).pool = w.pool := rfl
@[simp] theorem Work.push_owners (ts : List Task) (w : Work) : (w.push ts).owners = w.owners := rfl
@[simp] theorem Work.push_pool (ts : List Task) (w : Work) : (w.push ts).pool = w.pool := rfl
@[simp] theorem Work.touch_owners (w : Work) : w.touch.owners = w.owners := rfl
@[simp] theorem Work.touch_pool (w : Work) : w.touch.pool = w.pool := rfl
@[simp] theorem Work.mark_st (o : Option Nat) (w : Work) : (w.mark o).st = w.st := rfl
@[simp] theorem Work.mark_todo (o : Option Nat) (w : Work) : (w.mark o).todo = w.todo := rfl
@[simp] theorem Work.mark_touched (o : Option Nat) (w : Work) : (w.mark o).touched = w.touched := rfl
@[simp] theorem Work.mark_owners (o : Option Nat) (w : Work) : (w.mark o).owners = w.owners ++ o.toList := rfl
@[simp] theorem Work.mark_pool (o : Option Nat) (w : Work) : (w.mark o).pool = true := rfl

/-- The interpreter finds no request to take. -/
theorem takeMgmtHead_empty (w : Work) (h : w.st.mgmt.queue = []) : takeMgmtHead w = w := by
  simp [takeMgmtHead, h]

/-- What a request is taken on, when it comes in at a ready interpreter. -/
theorem request_ends {n : Nat} {seq : U16} {r : MgmtRequest} {s t : State} (ready : s.mgmtReady)
    (h : ((takeMgmt seq r { st := s.heard, todo := [], touched := false }).push [.mgmtTake]).Ends n t)
    (hn : n ≤ 1000000) : s.request seq r = t := by
  obtain ⟨hq, hr⟩ := ready
  refine State.event_of_ends (n := n + 1) ?_ (by omega)
  have e : arriveMgmt seq r { st := s, todo := [], touched := false }
      = { st := s.onMgmt fun m => { m with mark := .none, queue := [(seq, r)] }, todo := [.mgmtTake], touched := false } := by
    simp [arriveMgmt, hq, Work.on, Work.push, State.onMgmt]
  rw [e]
  refine Work.ends_task rfl ?_
  have e2 : runTask .mgmtTake { st := s.onMgmt fun m => { m with mark := .none, queue := [(seq, r)] }, todo := [], touched := false }
      = (takeMgmt seq r { st := s.heard, todo := [], touched := false }).push [.mgmtTake] := by
    have hs : (s.onMgmt fun m => { m with mark := .none, queue := [] }) = s.heard := by
      unfold State.heard State.onMgmt; simp only [← hq]
    simp only [runTask, takeMgmtHead, State.onMgmt_mgmt, hr, if_true, Work.on]
    rw [← hs]; rfl
  simp only [e2, Work.push_todo, List.append_nil]
  exact h

/-- A request that only changes the state, taken at once: the part comes out as that change leaves it. -/
theorem request_plain {seq : U16} {r : MgmtRequest} {s : State} {f : State → State} (ready : s.mgmtReady)
    (take : ∀ w, takeMgmt seq r w = w.on f) (keeps : (f s.heard).mgmt.queue = []) : s.request seq r = f s.heard := by
  refine request_ends (n := 2) ready ?_ (by omega)
  rw [take]
  refine Work.ends_task (t := .mgmtTake) (rest := []) rfl ?_
  have e : runTask .mgmtTake { st := f s.heard, todo := [], touched := false } = { st := f s.heard, todo := [], touched := false } :=
    takeMgmtHead_empty _ keeps
  simp only [Work.push, Work.on, e, List.append_nil]
  exact Work.ends_quiet _ rfl rfl rfl rfl

/-- The same, with the change worked out. -/
theorem request_result {seq : U16} {r : MgmtRequest} {s t : State} {f : State → State} (ready : s.mgmtReady)
    (take : ∀ w, takeMgmt seq r w = w.on f) (result : f s.heard = t) (keeps : t.mgmt.queue = s.mgmt.queue) :
    s.request seq r = t := by
  rw [← result]
  exact request_plain ready take (by rw [result, keeps]; exact ready.1)

/-! ### A server link's request taken the moment it comes in -/

/-- The intake of a link that finds no request. -/
theorem takeIntake_empty (l : Link) (w : Work) (h : (w.st.intake l).queue = []) : takeIntake l w = w := by
  simp [takeIntake, h]

@[simp] theorem State.intake_onLink (l : Link) (f : Intake → Intake) (s : State) : (s.onLink l f).intake l = f (s.intake l) := by
  simp [State.intake, State.onLink]

theorem State.onLink_onLink (l : Link) (f g : Intake → Intake) (s : State) :
    (s.onLink l f).onLink l g = s.onLink l (fun i => g (f i)) := by
  simp [State.onLink, Vector.set_set]

/-- What a request is taken on, when it comes in at a link whose intake is empty and need not hold it. -/
theorem serverRequest_ends {n : Nat} {l : Link} {seq : U16} {r : ServerRequest} {s t : State} (ready : s.linkReady l)
    (free : isPreserve r = true → s.mgmt.service = .serving → s.copyingPreserves l < 4)
    (h : ((if reachesUnit r s.mgmt.service then takeRequest l seq r { st := s.heardOn l, todo := [], touched := false }
      else { st := (s.heardOn l).answer l seq (bareReply r .notServing), todo := [], touched := false }).push
        [.intake l]).Ends n t)
    (hn : n ≤ 1000000) : s.serverRequest l seq r = t := by
  have hq : (s.intake l).queue = [] := ready
  refine State.event_of_ends (n := n + 1) ?_ (by omega)
  have e : arriveServer l seq r { st := s, todo := [], touched := false }
      = { st := s.onLink l fun i => { i with mark := .none, queue := [(seq, r)] }, todo := [.intake l], touched := false } := by
    have hq' : ((s.onLink l fun i => { i with mark := .none }).intake l).queue = [] := by simp [hq]
    simp only [arriveServer, Work.on, hq', List.length_nil, Nat.reduceLeDiff, if_false, List.isEmpty_nil, if_true, Work.push,
      List.nil_append, State.onLink_onLink, Work.mk.injEq, and_true]
    have : ∀ f g : Intake → Intake, f (s.intake l) = g (s.intake l) → s.onLink l f = s.onLink l g := by
      intro f g hfg; unfold State.onLink; rw [show f s.links[l.val] = g s.links[l.val] from hfg]
    exact this _ _ (by simp [hq])
  rw [e]
  refine Work.ends_task rfl ?_
  have hold : ¬(isPreserve r = true ∧ s.mgmt.service = .serving ∧ 4 ≤ s.copyingPreserves l) := by
    rintro ⟨a, b, c⟩; have := free a b; omega
  have e2 : runTask (.intake l) { st := s.onLink l fun i => { i with mark := .none, queue := [(seq, r)] }, todo := [], touched := false }
      = (if reachesUnit r s.mgmt.service then takeRequest l seq r { st := s.heardOn l, todo := [], touched := false }
          else { st := (s.heardOn l).answer l seq (bareReply r .notServing), todo := [], touched := false }).push [.intake l] := by
    have hs : (s.onLink l fun i => { i with mark := .none, queue := [(seq, r)] }).onLink l (fun i => { i with queue := [], held := false })
        = s.heardOn l := by
      rw [State.onLink_onLink]
      unfold State.heardOn State.onLink
      have : (s.links[l.val]).queue = [] := hq
      simp [← this]
    have hc : (s.onLink l fun i => { i with mark := .none, queue := [(seq, r)] }).copyingPreserves l = s.copyingPreserves l := rfl
    simp only [runTask, takeIntake, State.intake_onLink, State.onLink_mgmt, hc, hold, if_false, Work.on, hs]
  simp only [e2, Work.push_todo, List.append_nil]
  exact h

/-- A server request that only changes the state, taken at once. -/
theorem serverRequest_plain {l : Link} {seq : U16} {r : ServerRequest} {s : State} {f : State → State} (ready : s.linkReady l)
    (free : isPreserve r = false) (reach : reachesUnit r s.mgmt.service = true)
    (take : ∀ w : Work, w.owners = [] → takeRequest l seq r w = w.on f) (keeps : ((f (s.heardOn l)).intake l).queue = []) :
    s.serverRequest l seq r = f (s.heardOn l) := by
  refine serverRequest_ends (n := 2) ready (by simp [free]) ?_ (by omega)
  rw [if_pos reach, take _ rfl]
  refine Work.ends_task (t := .intake l) (rest := []) rfl ?_
  have e : runTask (.intake l) { st := f (s.heardOn l), todo := [], touched := false } = { st := f (s.heardOn l), todo := [], touched := false } :=
    takeIntake_empty l _ keeps
  simp only [Work.push, Work.on, e, List.append_nil]
  exact Work.ends_quiet _ rfl rfl rfl rfl

/-- The same, with the change worked out. -/
theorem serverRequest_result {l : Link} {seq : U16} {r : ServerRequest} {s t : State} {f : State → State} (ready : s.linkReady l)
    (free : isPreserve r = false) (reach : reachesUnit r s.mgmt.service = true)
    (take : ∀ w : Work, w.owners = [] → takeRequest l seq r w = w.on f)
    (result : f (s.heardOn l) = t) (keeps : (t.intake l).queue = (s.intake l).queue) : s.serverRequest l seq r = t := by
  rw [← result]
  exact serverRequest_plain ready free reach take (by rw [result, keeps]; exact ready)

/-! ### The take at hand (R133) -/

/-- A request takes a snapshot of the volume just where it is a TAKE SNAPSHOT with that volume number. -/
theorem requestTakes_iff {v : Nat} {r : MgmtRequest} :
    requestTakes v r = true ↔ ∃ (u : U32) (label : Option (List Byte)), u.toNat = v ∧ r = .takeSnapshot u label := by
  cases r <;> simp [requestTakes]

/-- When a TAKE SNAPSHOT of the volume is at hand: the next command is its row or brings its frame first, and the interpreter is
free; or the sender's becoming free is next, and lets the interpreter take it from the head of the queue. -/
theorem takeAtHand_iff {s : State} {v : Nat} :
    s.takeAtHand v = true ↔ ∃ (u : U32) (label : Option (List Byte)) (rest : List Instr), u.toNat = v ∧
      ((s.mgmtReady ∧ ∃ seq, s.pending = .takeSnapshot seq u label :: rest) ∨
       (s.mgmtReady ∧ ∃ bytes, s.pending = .mgmtFrameArrival bytes :: rest ∧
         (receive (s.mgmt.begun ++ bytes)).findSome? goodRequest = some (.takeSnapshot u label)) ∨
       (s.mgmt.replies.length = 4 ∧ s.pending = .mgmtSenderFree :: rest ∧
         ∃ seq more, s.mgmt.queue = (seq, .takeSnapshot u label) :: more)) := by
  unfold State.takeAtHand State.mgmtReady
  constructor
  · split
    next hq hp =>
      intro h; simp only [Bool.and_eq_true, decide_eq_true_eq, requestTakes_iff] at h
      obtain ⟨hr, u, label, hu, e⟩ := h; cases e
      exact ⟨_, _, _, hu, .inl ⟨⟨hq, hr⟩, _, hp⟩⟩
    next hq hp =>
      intro h; simp only [Bool.and_eq_true, decide_eq_true_eq, Option.any_eq_true, requestTakes_iff] at h
      obtain ⟨hr, r, hg, u, label, hu, rfl⟩ := h
      exact ⟨u, label, _, hu, .inr (.inl ⟨⟨hq, hr⟩, _, hp, hg⟩)⟩
    next hq hp =>
      intro h; simp only [Bool.and_eq_true, beq_iff_eq, requestTakes_iff] at h
      obtain ⟨hr, u, label, hu, rfl⟩ := h
      exact ⟨u, label, _, hu, .inr (.inr ⟨hr, hp, _, _, hq⟩)⟩
    next => intro h; cases h
  · rintro ⟨u, label, rest, hu, ⟨⟨hq, hr⟩, seq, hp⟩ | ⟨⟨hq, hr⟩, bytes, hp, hg⟩ | ⟨hr, hp, seq, more, hq⟩⟩
    · simp [hq, hp, hr, requestTakes, hu]
    · simp [hq, hp, hr, hg, requestTakes, hu]
    · simp [hq, hp, hr, requestTakes, hu]

end Sys2Proof.Machine
end

