-- ==== Sys2Proof/Laws/Layouts.lean ====
section
/-! SUPPORT. How long the fields of the management replies are: those of a kind without lists always the same, so that a
refusal has the length of a success (R187). -/

namespace Sys2Proof.Machine

theorem OwnerView.words_length (v : OwnerView) : v.words.length = 19 := by simp [OwnerView.words, graceWords]

theorem Settings.words_length (x : Settings) : x.words.length = 5 := rfl

theorem Pass.words_length (p : Pass) : p.words.length = 13 := rfl

theorem lookup_words_length (x : Lookup) : (ReplyData.lookup x).words.length = 5 := by cases x <;> rfl

theorem consignmentWords_length (c : Consignment) : (consignmentWords c).length = 5 := by
  unfold consignmentWords
  split <;> rfl

theorem RestoreView.words_length (v : RestoreView) : v.words.length = 27 + 2 * v.record.inProgress.length := by
  obtain ⟨r, position, blocks⟩ := v
  simp only [RestoreView.words, List.length_append, List.length_cons, List.length_nil]
  split <;> split <;> split <;> simp [listOf, List.length_flatten, Function.comp_def, List.map_const'] <;> omega

theorem DuplicationView.words_length (v : DuplicationView) :
    v.words.length = 26 + 5 * v.window.length + v.probeHistory.length := by
  unfold DuplicationView.words
  split <;> simp [listOf, List.length_flatten, Function.comp_def, List.map_const', Pass.words_length, consignmentWords_length] <;> omega

/-- The fields of one server link are six (R185). -/
theorem StatusView.words_length (v : StatusView) : v.words.length = 30 + 6 * v.links.length := by
  simp [StatusView.words, List.length_flatten, Function.comp_def, List.map_const']
  omega

end Sys2Proof.Machine
end

