-- ==== Sys2Proof/Laws/Tables.lean ====
section
/-! SUPPORT. The tables under their operations: what a look-up finds after a change, a creation or a removal, and what
the grace evaluation does to the part. -/

namespace Sys2Proof.Machine

/-! ### Look-ups in a table -/

variable {α κ : Type} [BEq κ] [LawfulBEq κ] (key : α → κ)

theorem tableAt_key {key : α → κ} {l : List α} {k : κ} {r : α} (h : tableAt key l k = some r) : key r = k := by
  simpa using List.find?_some h

omit [LawfulBEq κ] in
theorem tableAt_mem {key : α → κ} {l : List α} {k : κ} {r : α} (h : tableAt key l k = some r) : r ∈ l :=
  List.mem_of_find?_eq_some h

/-- A change of the records under one key. -/
theorem tableWith_update (l : List α) (k : κ) (f : α → α) (hf : ∀ r, key (f r) = key r) :
    tableWith key l (updateWhere (fun r => key r == k) f l) k ((tableAt key l k).map f) := by
  have eq : ∀ m, tableAt key (updateWhere (fun r => key r == k) f l) m
      = (tableAt key l m).map fun r => if key r == k then f r else r := by
    intro m
    simp only [tableAt, updateWhere, List.find?_map]
    congr 2
    funext r
    by_cases h : key r == k <;> simp [h, hf]
  constructor
  · rw [eq]
    cases h : tableAt key l k with
    | none => rfl
    | some r => simp [tableAt_key h]
  · intro m hm
    rw [eq]
    cases h : tableAt key l m with
    | none => rfl
    | some r => simp [tableAt_key h, hm]

/-- A record put in under a key that had none. -/
theorem tableWith_insert (l : List α) (r : α) (b : α → α → Bool) (h : tableAt key l (key r) = none) :
    tableWith key l (insertSorted b r l) (key r) (some r) := by
  constructor
  · induction l with
    | nil => simp [tableAt, insertSorted]
    | cons a t ih =>
      simp only [tableAt, List.find?_cons] at h
      split at h
      · cases h
      · rename_i ha
        unfold insertSorted
        split
        · simp [tableAt]
        · simp only [tableAt, List.find?_cons, ha]; exact ih h
  · intro m hm
    have hk : (key r == m) = false := by simpa using Ne.symm hm
    induction l with
    | nil => simp [tableAt, insertSorted, hk]
    | cons a t ih =>
      simp only [tableAt, List.find?_cons] at h
      split at h
      · cases h
      · rename_i ha
        unfold insertSorted
        split
        · simp [tableAt, hk]
        · simp only [tableAt, List.find?_cons]
          split
          · rfl
          · exact ih h

/-- A record put in at the tail under a key that had none. -/
theorem tableWith_append (l : List α) (r : α) (h : tableAt key l (key r) = none) :
    tableWith key l (l ++ [r]) (key r) (some r) := by
  constructor
  · simp only [tableAt] at h
    simp [tableAt, List.find?_append, h]
  · intro m hm
    have hk : (key r == m) = false := by simpa using Ne.symm hm
    simp [tableAt, List.find?_append, hk]

/-- The records under a key taken out. -/
theorem tableWith_filter (l : List α) (k : κ) : tableWith key l (l.filter fun r => !(key r == k)) k none := by
  constructor
  · simp only [tableAt, List.find?_eq_none, List.mem_filter]
    intro x hx; simpa using hx.2
  · intro m hm
    induction l with
    | nil => rfl
    | cons a t ih =>
      simp only [tableAt] at ih ⊢
      by_cases h : key a == k
      · have : (key a == m) = false := by
          have := eq_of_beq h; subst this; simpa using Ne.symm hm
        simp [h, ih, this]
      · by_cases h2 : key a == m
        · simp [h, h2]
        · simp [h, h2, ih]

theorem State.owner?_eq (s : State) (n : Nat) : s.owner? n = tableAt OwnerRecord.owner s.quota.owners n := rfl
theorem State.volume?_eq (s : State) (n : Nat) : s.volume? n = tableAt Volume.volume s.cat.volumes n := rfl
theorem State.snap?_eq (s : State) (v e : Nat) : s.snap? v e = tableAt Snapshot.name s.cat.snaps (v, e) := rfl
theorem State.entry?_eq (s : State) (v b i : Nat) : s.entry? v b i = tableAt Entry.key s.pres.index (v, b, i) := by
  simp only [State.entry?, tableAt]
  congr 1; funext e
  change (e.volume == v && e.block == b && e.interval == i) = (e.volume == v && (e.block == b && e.interval == i))
  rw [Bool.and_assoc]
theorem State.roster?_eq (s : State) (n : Nat) : s.roster? n = tableAt RosterEntry.volume s.sched.roster n := rfl

/-- The owner table after a change of one owner's record. -/
theorem ownersWith_update (l : List OwnerRecord) (n : Nat) (f : OwnerRecord → OwnerRecord) (hf : ∀ r, (f r).owner = r.owner) :
    ownersWith l (updateWhere (fun r => r.owner == n) f l) n ((tableAt OwnerRecord.owner l n).map f) :=
  tableWith_update OwnerRecord.owner l n f hf

theorem insertSorted_length (b : α → α → Bool) (x : α) (l : List α) :
    (insertSorted b x l).length = l.length + 1 := by
  induction l with
  | nil => rfl
  | cons y ys ih => unfold insertSorted; split <;> simp [ih]

theorem updateWhere_length (p : α → Bool) (f : α → α) (l : List α) : (updateWhere p f l).length = l.length := by
  simp [updateWhere]

/-- Two changes of the elements that `p` picks, where the first leaves what `p` looks at. -/
theorem updateWhere_twice (p : α → Bool) (f g : α → α) (h : ∀ x, p (f x) = p x) (l : List α) :
    updateWhere p g (updateWhere p f l) = updateWhere p (fun x => g (f x)) l := by
  simp only [updateWhere, List.map_map]
  refine List.map_congr_left fun x _ => ?_
  by_cases hp : p x = true <;> simp [hp, h]

/-! ### The grace evaluation -/

/-- A change of an owner's record followed by its evaluation, as one change of the table and one notice. -/
theorem State.onOwner_evalGrace (s : State) (n : Nat) (f : OwnerRecord → OwnerRecord) (r : OwnerRecord)
    (hf : ∀ r, (f r).owner = r.owner) (hg : ∀ r, (f r).origin = r.origin) (h : s.owner? n = some r) :
    let after := graceOutcome s.clock.minute (s.graceMinutes r) (f r)
    ∃ owners, (s.onOwner n f).evalGrace n = ({ s with quota := { s.quota with owners := owners } } : State).raiseIf after.2 ∧
      ownersWith s.quota.owners owners n (some { f r with grace := after.1 }) ∧ owners.length = s.quota.owners.length := by
  intro after
  have h1 := ownersWith_update s.quota.owners n f hf
  have hr : (s.onOwner n f).owner? n = some (f r) := by
    have := h1.1; rw [State.owner?_eq] at h; rw [h] at this; exact this
  have hm : (s.onOwner n f).graceMinutes (f r) = s.graceMinutes r := by
    simp only [State.graceMinutes, hg]; rfl
  have hc : (s.onOwner n f).clock = s.clock := rfl
  refine ⟨updateWhere (fun r => r.owner == n) (fun r => { f r with grace := after.1 }) s.quota.owners, ?_, ?_, ?_⟩
  · simp only [State.evalGrace, hr, hm, hc]
    change ((s.onOwner n f).onOwner n fun r => { r with grace := after.1 }).raiseIf after.2 = _
    congr 1
    simp only [State.onOwner, State.onQuota]
    rw [updateWhere_twice _ f _ (fun x => by rw [hf])]
  · have := ownersWith_update s.quota.owners n (fun r => { f r with grace := after.1 }) (fun r => hf r)
    rw [State.owner?_eq] at h; rw [h] at this; exact this
  · simp [updateWhere]

/-- A raised notice leaves everything but the notice queue and its counter. -/
theorem State.raiseIf_quota (b : Option NoticeBody) (s : State) : (s.raiseIf b).quota = s.quota := by cases b <;> rfl
theorem State.raiseIf_links (b : Option NoticeBody) (s : State) : (s.raiseIf b).links = s.links := by cases b <;> rfl
theorem State.raiseIf_queue (b : Option NoticeBody) (s : State) : (s.raiseIf b).mgmt.queue = s.mgmt.queue := by cases b <;> rfl
theorem State.raiseIf_timers (b : Option NoticeBody) (s : State) : (s.raiseIf b).timers = s.timers := by cases b <;> rfl

@[simp] theorem State.reply_queue (q : U16) (c : Nat) (x : Status) (g : Flags) (d : ReplyData) (s : State) :
    (s.reply q c x g d).mgmt.queue = s.mgmt.queue := rfl
@[simp] theorem State.refuse_queue (q : U16) (c : Nat) (x : Status) (s : State) :
    (s.refuse q c x).mgmt.queue = s.mgmt.queue := rfl
@[simp] theorem State.raise_queue (b : NoticeBody) (s : State) : (s.raise b).mgmt.queue = s.mgmt.queue := rfl

/-- The grace state of an owner that has a record. -/
theorem State.graceOf_some {s : State} {n : Nat} {r : OwnerRecord} (h : s.owner? n = some r) : s.graceOf n = r.grace := by
  simp [State.graceOf, h]

/-- What the state a request finds holds. -/
theorem State.heard_queue (s : State) : s.heard.mgmt.queue = s.mgmt.queue := rfl
theorem State.heardOn_queue (s : State) (l : Link) : ((s.heardOn l).intake l).queue = (s.intake l).queue := by
  simp [State.heardOn]

end Sys2Proof.Machine
end

