-- ==== Sys2Proof/WellFormed.lean ====
section
/-! DEFINITION. Which commands are well formed: what their operands must be to stand for something that can arrive. -/

namespace Sys2Proof

/-- The content of a DATA frame: a whole number of blocks, 1 to 64 (R189). -/
def wholeBlocks (content : List Byte) : Bool :=
  content.length % Config.blockBytes == 0 && 1 ≤ content.length / Config.blockBytes
    && content.length / Config.blockBytes ≤ 64

/-- Some bytes arrive on a link: a piece of a frame, a frame or several, or bytes in which no frame begins (R186). -/
def someBytes (bytes : List Byte) : Bool := !bytes.isEmpty

/-- Bytes in which, taken by themselves, the receiving link finds no frame it has a use for: what it finds is malformed, or
of a kind or length that is no command. -/
def discardable (command : Byte → U16 → List Byte → Option Instr) (bytes : List Byte) : Bool :=
  someBytes bytes &&
    (receive bytes).all fun r =>
      match r with
      | .frame kind seq body => (command kind seq body).isNone
      | _ => true

/-- A TAKE SNAPSHOT body is four units, so its label has fewer than 32 bytes (R187). -/
def labelFits (label : Option (List Byte)) : Bool := decide ((label.getD []).length < 32)

/-- The well-formed commands. -/
def Instr.wf : Instr → Bool
  | .mgmtFrameArrival bytes => someBytes bytes
  | .serverFrameArrival _ bytes => someBytes bytes
  | .takeSnapshot _ _ label => labelFits label
  | .storeData _ _ content => wholeBlocks content
  | .storeFrameDiscard bytes => discardable storeCommandOf bytes
  | .offsiteFrameDiscard bytes => discardable offsiteCommandOf bytes
  | .powerOn | .resetLine | .secondsTick | .mgmtSenderFree | .writeOwner _ _ | .readOwnerExact _ _
  | .readOwnerNext _ _ | .removeOwner _ _ | .setUsage _ _ _ | .writePolicy _ _ | .erasePolicy _ _
  | .defineVolume _ _ _ | .removeVolume _ _ | .retireSnapshot _ _ _ | .listSnapshots _ _ | .lookupBlock _ _ _ _
  | .setPool _ _ | .clearQuarantine _ | .requestRestore _ _ | .cancelRestore _ _ | .readRestore _ _
  | .writeSchedule _ _ | .startSchedule _ _ | .stopSchedule _ | .clearCycle _ | .writeRoster _ _ _ | .eraseRoster _ _
  | .setBase _ _ _ | .readSchedule _ | .readDuplication _ | .openService _ | .pauseService _ | .saveTables _
  | .loadTables _ | .restart _ | .setTimers _ _ | .setClock _ _ | .readStatus _ | .claim _ _ _ | .settle _ _ _
  | .release _ _ _ | .preserve _ _ _ | .storeDone _ _ | .storeFault _ _ _ | .storeTimeout _ | .accept _ | .commit _ _
  | .reject _ _ _ | .sealed _ | .probeAnswer _ | .consignmentDeadlineExpiry _ | .answerDeadlineExpiry
  | .silenceTimeout | .probeTimer | .pacerOverflow | .claimLapse _ | .graceExpiry _ | .rescueExpiry | .stallExpiry _
  | .cycleAdvance | .mergeStep _ | .goLive _ => true

end Sys2Proof
end

