-- ==== Sys2Proof/Tests/Slice0.lean ====
section
/-! SUPPORT. Tests: ill-formed commands that WellFormed refuses, worked examples of the spec, and for each statement with
hypotheses a concrete state and operands that meet them. -/

namespace Sys2Proof.Tests

open Sys2Proof Sys2Proof.Machine

-- One theorem after another: the kernel evaluates each, and many waiting at once take many threads.
set_option Elab.async false

/-! ### Small states -/

/-- An owner well within its limits. -/
def owner7 : OwnerRecord :=
  { owner := 7, cls := .student, hard := 100, soft := 50, held := 10, reserved := 0, pinned := 3, share := 4, overdraft := 5,
    overTags := 2, grace := .within, origin := .row 0 }

/-- The row that owners without a record match. -/
def row0 : PolicyRow :=
  { pattern := 0, mask := 0, volume := none, tagCondition := none, cls := .student, hard := 100, soft := 50, share := 4,
    overdraft := 5, overTags := 2, graceMinutes := 60 }

/-- Volume 9, on link 4. -/
def vol9 : Volume := { volume := 9, link := 4, waiting := [], merge := none }

/-- A snapshot of volume 9. -/
def snap (epoch : Nat) (state : SnapState) : Snapshot :=
  { volume := 9, epoch := epoch, kind := .manual, label := none, creation := some 5, state := state, holds := [],
    changeCount := 1 }

/-- A nightly snapshot of volume 9. -/
def nightly (epoch : Nat) (state : SnapState) : Snapshot := { snap epoch state with kind := .nightly }

/-- A SLOT entry of volume 9. -/
def slotAt (block interval n : Nat) (state : EntryState) : Entry :=
  { volume := 9, block := block, interval := interval, kind := .slot n 7 state }

/-- A FRESH entry of volume 9. -/
def freshAt (block interval : Nat) : Entry := { volume := 9, block := block, interval := interval, kind := .fresh }

/-- The part SERVING, with owner 7, policy row 0, volume 9 and four free slots. -/
def made : State :=
  { State.reset with
    mgmt := { State.reset.mgmt with service := .serving }
    quota := { State.reset.quota with owners := [owner7], policy := State.reset.quota.policy.set 0 (some row0) }
    cat := { State.reset.cat with volumes := [vol9], nextEpoch := Vector.replicate 48 20 }
    pres := { State.reset.pres with poolSize := 8, free := [0, 1, 2, 3], lowMark := 2 }
    mover := { State.reset.mover with mode := .openMode }
    offsite := { State.reset.offsite with link := .up, awaitedProbe := none } }

/-- A state in another service state. -/
def inState (x : ServiceState) (s : State) : State := { s with mgmt := { s.mgmt with service := x } }

/-- A state with the snapshots given. -/
def withSnaps (l : List Snapshot) (s : State) : State := { s with cat := { s.cat with snaps := l } }

/-- A state with the index entries given. -/
def withIndex (l : List Entry) (s : State) : State := { s with pres := { s.pres with index := l } }

/-- A state whose volume 9 is as given. -/
def withVol (v : Volume) (s : State) : State := { s with cat := { s.cat with volumes := [v] } }

/-- A state whose owner table is as given. -/
def withOwners (l : List OwnerRecord) (s : State) : State := { s with quota := { s.quota with owners := l } }

/-- A state with the claims given. -/
def withClaims (l : List Claim) (s : State) : State := { s with quota := { s.quota with claims := l } }

/-- A merge of epoch `x` of volume 9 in progress. -/
def merging (x : Nat) (target : Option Nat) : Volume :=
  { vol9 with merge := some { epoch := x, target := target, cursor := 0, freed := 4 } }

/-- A held snapshot of volume 9, LIVE. -/
def heldSnap (epoch : Nat) (h : Holder) : Snapshot := { snap epoch .live with holds := [h] }

/-- The part with snapshot 3 of volume 9 LIVE. -/
def live3 : State := withSnaps [snap 3 .live] made

/-- The part with a table of 16,384 owners. -/
def fullOwners : State := withOwners (List.replicate 16384 { owner7 with owner := 3 }) made

theorem fullOwners_length : fullOwners.quota.owners.length = 16384 := List.length_replicate

/-- A claim of owner 7 for 89 blocks. -/
def claim7 : ClaimReq := { owner := 7, volume := 9, tags := 0, partialOk := false, count := 89 }

/-! ### Ill-formed commands -/

theorem test_wf_no_bytes : (Instr.mgmtFrameArrival []).wf = false ∧ (Instr.serverFrameArrival 4 []).wf = false := by decide

theorem test_wf_nothing_to_discard :
    (Instr.storeFrameDiscard []).wf = false ∧ (Instr.offsiteFrameDiscard []).wf = false := by decide +kernel

theorem test_wf_long_label : (Instr.takeSnapshot 1 9 (some (List.replicate 32 65))).wf = false := by decide +kernel

theorem test_wf_part_of_a_block : (Instr.storeData 1 2 (List.replicate 4095 0)).wf = false := by decide +kernel

theorem test_wf_no_block : (Instr.storeData 1 2 []).wf = false := by decide +kernel

theorem test_wf_useful_store_frame : (Instr.storeFrameDiscard (frameBytes 67 1 [6, 0, 0, 0, 0, 0, 0, 0])).wf = false := by
  decide +kernel

theorem test_wf_useful_offsite_frame : (Instr.offsiteFrameDiscard (frameBytes 88 1 [0, 0, 0, 5, 0, 0, 0, 0])).wf = false := by
  decide +kernel

theorem test_wf_one_frame : (Instr.mgmtFrameArrival (frameBytes 51 1 [])).wf = true := by decide +kernel

theorem test_wf_discarded_frame : (Instr.storeFrameDiscard (frameBytes 1 1 [])).wf = true := by decide +kernel

/-! ### Worked examples of the spec -/

/-- What a command makes of a state. -/
def after (c : Instr) (s : State) : State :=
  match exec c s with
  | .next t => t
  | _ => s

/-- The notices a command raises. -/
def notices (c : Instr) (s : State) : List NoticeBody := ((after c s).mgmt.notices.drop s.mgmt.notices.length).map (·.body)

/-- Owner 2,204,117 of 02_claims_and_admission.md. -/
def worked : OwnerRecord :=
  { owner := 2204117, cls := .student, hard := 2621440, soft := 2097152, held := 2080000, reserved := 12000, pinned := 40000,
    share := 8, overdraft := 262144, overTags := 8, grace := .grace 5191200, origin := .row 1 }

/-- The figures of the worked cases of admission. -/
theorem test_admission_figures :
    worked.pinCharge = 20000 ∧ worked.charge = 2112000 ∧ worked.usage = 2100000 ∧ worked.room 0 = 509440 ∧
    worked.room 10 = 771584 ∧ ({ worked with pinned := 40001 } : OwnerRecord).room 0 = 509439 ∧
    ({ worked with grace := .expired } : OwnerRecord).room 0 = 0 ∧
    ({ worked with grace := .expired } : OwnerRecord).room 8 = 247296 := by decide +kernel

/-- A claim in part, and one refused, at the expired limit: 02_claims_and_admission.md. -/
theorem test_claim_in_part :
    let s := withOwners [{ worked with held := 2580000, grace := .within }] made
    (after (.claim 4 1 { owner := 2204117, volume := 9, tags := 0, partialOk := true, count := 20000 }) s).quota.claims =
      [{ ticket := 1, owner := 2204117, granted := 9440, kind := .server 4 60 }] ∧
    (after (.claim 4 1 { owner := 2204117, volume := 9, tags := 0, partialOk := false, count := 20000 }) s).quota = s.quota := by
  decide +kernel

/-- Owner 2,310,000 on the evening of 02_claims_and_admission.md, after its claim of 5,000. -/
def evening : State :=
  let r : OwnerRecord :=
    { owner := 2310000, cls := .student, hard := 2621440, soft := 2097152, held := 2090000, reserved := 5000, pinned := 10000,
      share := 8, overdraft := 0, overTags := 0, grace := .within, origin := .written }
  let s := withOwners [r] (withClaims [{ ticket := 1, owner := 2310000, granted := 5000, kind := .server 3 50 }] made)
  { s with clock := { minute := 5200001, seconds := 0 } }

/-- The SETTLE of the evening starts a grace; this record's origin is WRITTEN, so it takes 10,080 minutes. -/
theorem test_settle_starts_grace :
    notices (.settle 3 1 { ticket := 1, used := 4000 }) evening = [.graceStarted 2310000 2099000 5210081] ∧
    (after (.settle 3 1 { ticket := 1, used := 4000 }) evening).quota.owners.map (fun r => (r.held, r.reserved)) =
      [(2094000, 0)] := by decide +kernel

/-- The RELEASE of the evening ends it. -/
theorem test_release_ends_grace :
    let s := withOwners (evening.quota.owners.map fun r => { r with held := 2094000, reserved := 0, pinned := 10016, grace := .expired }) evening
    notices (.release 3 1 { owner := 2310000, count := 3000 }) s = [.graceEnded 2310000 2096008 2097152] := by decide +kernel

/-- The three rows of 01_owners_and_policy_rows.md and the rows its requests match. -/
theorem test_rows_match :
    let project : PolicyRow :=
      { row0 with pattern := 3145728, mask := 15728640, volume := some 12 }
    let tagged : PolicyRow := { row0 with pattern := 2097152, mask := 15728640, tagCondition := some 8 }
    let plain : PolicyRow := { tagged with tagCondition := none }
    let s := { made with quota :=
      { made.quota with policy := ((made.quota.policy.set 0 (some project)).set 1 (some tagged)).set 2 (some plain) } }
    ((s.matchingRow 2204117 5 8).map (·.1) = some 1) ∧ ((s.matchingRow 2310000 5 0).map (·.1) = some 2) ∧
    s.matchingRow 3200001 7 0 = none ∧ ((s.matchingRow 3200001 12 0).map (·.1) = some 0) := by decide +kernel

/-- The change of settings of 07_the_duplication_schedule.md: the window length is clamped to 1,410. -/
theorem test_schedule_clamps :
    (settingsOf { cycle := 1440, point := 30, window := 30, length := 1500, reload := 65036 }).clamp =
      { cycle := 1440, point := 30, window := 30, length := 1410, reload := 65036 } := by decide +kernel

/-- The grants of 05_the_mover_and_the_store_channel.md, of a preservation at 24 tags and the rotation at step 3. -/
theorem test_contested_grants :
    let p (n : Nat) : StoreOp :=
      { op := .read, area := .volume 1, address := n, length := 1, thenWrite := some (.pool, n), client := .preservation none }
    let r (id : Nat) : StoreOp := { p 0 with op := .free, thenWrite := none, client := .restore id 0 }
    let d : StoreOp := { p 0 with thenWrite := none, client := .duplication { pass := 1, consignment := 1, block := 0 } }
    let m : Mover :=
      { made.mover with
        tags := Vector.ofFn fun i =>
          if i.val < 24 then some { op := p 0, phase := .first, sentSeq := 0, remaining := 5 } else none
        preservationQ := [p 1], restoreQs := [{ id := 7, ops := [r 7] }, { id := 12, ops := [r 12] }]
        duplicationQ := [d, d], rotation := 2, lastRestore := 7 }
    (m.grant true).map (fun g => (g.1, g.2.rotation)) = some (d, 3) ∧
    (m.grant false).map (fun g => (g.1, g.2.rotation)) = some (r 12, 2) ∧
    (({ m with rotation := 3 } : Mover).grant true).map (fun g => (g.1, g.2.rotation, g.2.lastRestore)) = some (r 12, 0, 12) := by
  decide +kernel

/-- A request whose frame comes in two pieces is taken when the second is in (R186). -/
theorem test_frame_in_two_pieces :
    let f := frameBytes 51 5 []
    let s := after (.mgmtFrameArrival (f.take 7)) made
    s.mgmt.replies = [] ∧ ((after (.mgmtFrameArrival (f.drop 7)) s).mgmt.replies.map (·.seq)) = [5] := by decide +kernel

/-- A restore STALLED at block 5 takes the slot that a merge step frees: owner 7 is evaluated once, with as many slots pinned
as before, and so are the pool warnings, with none free as before: no notice is raised (R23, R72). -/
theorem test_merge_frees_for_a_stalled_restore :
    let r : Restore :=
      { queuedRestore 1 { volume := 9, epoch := 3, first := 5, count := 4, mode := some .inPlace, owner := 7, tags := 0,
                          urgency := some .urgent } .inPlace .urgent with
        state := .stalled, stall := some 4, lastRefusal := some .poolEmpty, cursor := some 5 }
    let s := withIndex [slotAt 5 3 2 .settled, slotAt 6 3 6 .settled, slotAt 6 7 1 .settled]
      (withVol (merging 7 (some 3)) (withSnaps [heldSnap 3 (.restore 1), snap 7 .merging, snap 9 .live]
        (withOwners [{ owner7 with held := 50, grace := .grace 90 }] made)))
    let s := { s with
      pres := { s.pres with free := [], belowLow := true, empty := true }
      rest := { s.rest with active := [r] }, mover := { s.mover with restoreQs := [{ id := 1, ops := [] }] } }
    let t := after (.mergeStep 9) s
    t.pres.free = [] ∧ t.quota.owners.map (fun o => (o.pinned, o.grace)) = [(3, .grace 90)] ∧
    (notices (.mergeStep 9) s).all (fun n => n matches .snapshotGone ..) = true := by decide +kernel

/-- RESTART in STOPPED makes a pending copy of the next settings and fits the counter to them (R138). -/
theorem test_restart_copies_next :
    let s := { made with sched :=
      { made.sched with next := { made.sched.live with cycle := 600 }, nextWritten := true, counter := 700 } }
    ((after (.restart 1) s).sched.live.cycle, (after (.restart 1) s).sched.nextWritten, (after (.restart 1) s).sched.counter)
      = (600, false, 0) := by decide +kernel

/-- A SERVICE operation that has waited in OPEN is granted as PAUSE SERVICE leaves the mover DRAINED (R98). -/
theorem test_service_granted_when_drained :
    let op : StoreOp := { op := .read, area := .tables, address := 0, length := 1, thenWrite := none, client := .service }
    let t := after (.pauseService 1) { made with mover := { made.mover with serviceQ := [op] } }
    (t.mgmt.service, t.mover.mode, t.mover.serviceQ, (t.mover.tag 0).map (·.op)) = (.paused, .drained, [], some op) := by
  decide +kernel

/-- As RESTART answers the preservation in its fence, a FENCING restore enters COPYING at its first source block, which its
record in the ended list then carries (R109, R118, R120). -/
theorem test_restart_completes_fencing :
    let q : RestoreReq :=
      { volume := 9, epoch := 3, first := 5, count := 4, mode := some .inPlace, owner := 7, tags := 0, urgency := some .urgent }
    let r : Restore := { queuedRestore 1 q .inPlace .urgent with state := .fencing }
    let p : PendingPreserve :=
      { who := .link 4 2, counted := true, volume := 9, first := 5, count := 1, newCount := 1, alreadyCount := 0,
        own := [(5, 1)], waitsOn := [], faulted := [], gate := [] }
    let s := withIndex [slotAt 5 3 1 .copying] (withSnaps [heldSnap 3 (.restore 1)] made)
    let s := { s with pres := { s.pres with pendings := [p] }, rest := { s.rest with active := [r] } }
    (after (.restart 1) s).rest.ended.map (fun e => (e.cursor, e.outcome)) = [(some 5, some .cancelled)] := by decide +kernel

/-- A refusal of READ RESTORE, READ DUPLICATION, READ STATUS or LOOKUP BLOCK is as long as its success (R187). -/
theorem test_refusals_as_long :
    ∀ c ∈ [Instr.readDuplication 1, .readStatus 1, .lookupBlock 1 9 5 3],
      ((after c live3).mgmt.replies.map fun r => r.body.2.length) =
        ((after c (inState .loading live3)).mgmt.replies.map fun r => r.body.2.length) := by decide +kernel

/-- The standard check value of the frame check R186 describes, over the characters 1 to 9. -/
theorem test_frame_check : crc [49, 50, 51, 52, 53, 54, 55, 56, 57] = 0x29B1 := by decide +kernel

/-- The bodies R188 lays out, byte by byte. -/
theorem test_claim_body :
    serverRequestOf 1 [0, 0, 1, 0, 9, 3, 1, 0, 0, 0, 0, 77, 0, 0, 0, 0] =
      some (.claim { owner := 256, volume := 9, tags := 3, partialOk := true, count := 77 }) ∧
    serverRequestOf 4 [9, 1, 0, 64, 0, 0, 1, 2, 0, 0, 0, 7, 0, 0, 0, 0] =
      some (.preserve { volume := 9, intent := some .free, kind := some .occupied, count := 64, first := 258, owner := 7 }) := by
  decide +kernel

/-- Consignment 3 of the worked pass has a body of 516 units (R189). -/
theorem test_consignment_length :
    (OffsiteFrame.body (.consignment 9 3 1 [(5000, some (List.replicate 4096 0)), (5001, none)])).2.length = 8 * 516 := by
  decide +kernel

/-- A frame whose check differs sets the mark and does nothing else (R161). -/
theorem test_check_fault :
    let s := after (.serverFrameArrival 4 ((frameBytes 2 1 (toBe 4 1 ++ toBe 4 1)).dropLast ++ [0])) made
    (s.intake 4).mark = .check ∧ s.sent = made.sent := by decide +kernel

/-- The part takes no PRESERVE before service opens, and answers it NOT_SERVING (R163). -/
theorem test_not_serving :
    (after (.preserve 4 1 { volume := 9, intent := some .write, kind := some .fresh, count := 1, first := 0, owner := 0 })
      (inState .paused made)).sent.getLast? = some (.server 4 1 (.preserve .notServing 9 0 0 0 0 0 [])) := by decide +kernel

/-- Power-on leaves STARTING, with the first PROBE sent (R157, R175). -/
theorem test_power_on :
    (after .powerOn made).mgmt.service = .starting ∧ (after .powerOn made).sent.getLast? = some (.offsite 0 .probe) := by
  decide +kernel

/-- The seconds tick turns the minute (R183). -/
theorem test_minute_turns :
    (after .secondsTick { made with clock := { minute := 4294967295, seconds := 59 } }).clock = { minute := 0, seconds := 0 } := by
  decide +kernel

/-! ### States and operands that meet the hypotheses of the statements -/

/-- A good WRITE OWNER of owner 7. -/
def write7 : WriteOwnerReq :=
  { owner := 7, cls := some .staff, hard := 40, soft := 60, share := 17, overdraft := 1048575, tags := 3 }

theorem witness_WriteOwnerWritesTheRecord :
    (made.mgmtReady ∧ configurable made.mgmt.service = true ∧ write7.owner.toNat ≤ 16777215 ∧ write7.cls = some .staff ∧
      write7.overdraft.toNat ≤ 1048575 ∧ made.owner? write7.owner.toNat = some owner7) ∧
    (let q := { write7 with owner := 16777215 }
     q.owner.toNat ≤ 16777215 ∧ made.owner? q.owner.toNat = none ∧ made.quota.owners.length < 16384) ∧
    (fullOwners.mgmtReady ∧ configurable fullOwners.mgmt.service = true ∧ 16384 ≤ fullOwners.quota.owners.length) ∧
    fullOwners.owner? write7.owner.toNat = none := by
  refine ⟨by simp only [State.mgmtReady]; decide +kernel, by decide +kernel, ?_, ?_⟩
  · exact ⟨⟨rfl, by decide +kernel⟩, rfl, Nat.le_of_eq fullOwners_length.symm⟩
  · simp only [State.owner?, fullOwners, withOwners, List.find?_replicate]; decide +kernel

theorem witness_ReadOwnerReturnsTheRecord :
    made.mgmtReady ∧ configurable made.mgmt.service = true ∧ made.owner? (7 : U32).toNat = some owner7 ∧
    made.owner? (16777215 : U32).toNat = none ∧ (16777216 : U32).toNat ≤ 16777216 ∧ made.OwnersOrdered := by
  simp only [State.mgmtReady, State.OwnersOrdered]; decide +kernel

/-- An owner that nothing charges. -/
def idle7 : OwnerRecord := { owner7 with held := 0, pinned := 0 }

theorem witness_RemoveOwnerNeedsAnUnusedRecord :
    (let s := withOwners [idle7] made
     s.mgmtReady ∧ configurable s.mgmt.service = true ∧ s.owner? 7 = some idle7 ∧ idle7.held = 0 ∧ idle7.reserved = 0 ∧
       idle7.pinned = 0 ∧ ¬∃ x ∈ s.rest.queue ++ s.rest.active, x.owner = 7) ∧
    (made.mgmtReady ∧ made.owner? (7 : U32).toNat = some owner7 ∧ owner7.held ≠ 0 ∧
      made.owner? (16777215 : U32).toNat = none) := by
  simp only [State.mgmtReady]; decide +kernel

theorem witness_SetUsageSetsHeld :
    made.mgmtReady ∧ configurable made.mgmt.service = true ∧ (7 : U32).toNat ≤ 16777215 ∧
    made.owner? (7 : U32).toNat = some owner7 ∧ made.owner? (16777215 : U32).toNat = none := by
  simp only [State.mgmtReady]; decide +kernel

/-- Owner 7 with a usage at the soft limit, or one above it. -/
def atSoft (extra : Nat) (g : GraceState) (o : Origin) : OwnerRecord := { owner7 with held := 49 + extra, grace := g, origin := o }

theorem witness_GraceEvaluationFollowsTheTable :
    (∀ g ∈ [GraceState.within, .grace 9, .expired],
      (atSoft 0 g .written).held + ((atSoft 0 g .written).pinned * (atSoft 0 g .written).share + 15) / 16 = 50 ∧
      (atSoft 0 g .written).soft = 50 ∧ (atSoft 1 g .written).held = 50) ∧
    0 < made.graceMinutes (atSoft 1 .within (.row 0)) ∧ made.quota.policy[(0 : Fin 24)] = some row0 ∧
    (let s := { made with quota :=
      { made.quota with policy := made.quota.policy.set 0 (some { row0 with graceMinutes := 0 }) } }
     s.graceMinutes (atSoft 1 .within (.row 0)) = 0) := by decide +kernel

/-- A good WRITE POLICY of the last row. -/
def writeRow : WritePolicyReq :=
  { index := 23, pattern := 255, mask := 15, volume := some 47, tagCondition := some 1, cls := some .project, hard := 9,
    soft := 10, share := 17, overdraft := 1048575, tags := 2, graceMinutes := 43201 }

theorem witness_WritePolicyFillsTheRow :
    writeRow.index.toNat < 24 ∧ made.mgmtReady ∧ configurable made.mgmt.service = true ∧
    writeRow.volume = some 47 ∧ (47 : U32).toNat ≤ 47 ∧ writeRow.cls = some .project ∧
    writeRow.overdraft.toNat ≤ 1048575 ∧ writeRow.tagCondition ≠ some 0 := by
  simp only [State.mgmtReady]; decide +kernel

theorem witness_ErasePolicyTurnsOriginsToWritten :
    made.mgmtReady ∧ configurable made.mgmt.service = true ∧ 23 < (24 : U32).toNat ∧ made.quota.policy[23] = none ∧
    made.quota.policy[0] ≠ none := by
  simp only [State.mgmtReady]; decide +kernel

theorem witness_ClaimIsDecidedAgainstTheRoom :
    (made.linkReady 4 ∧ made.mgmt.service = .serving ∧ 0 < claim7.count.toNat ∧ claim7.count.toNat ≤ 65536 ∧
      claim7.owner.toNat ≤ 16777215 ∧ made.volume? claim7.volume.toNat = some vol9 ∧ vol9.link = 4 ∧
      made.quota.claims.length < 4096 ∧ made.openClaims 4 < 512 ∧ made.owner? claim7.owner.toNat = some owner7) ∧
    (let room := 100 - min (owner7.held + owner7.reserved + (owner7.pinned * owner7.share + 15) / 16) 4294967295
     claim7.tags &&& owner7.overTags = 0 ∧ owner7.grace ≠ .expired ∧
     claim7.count.toNat = room ∧ room < 90 ∧ (1 ≤ room) ∧ claim7.partialOk = false) := by
  simp only [State.linkReady]; decide +kernel

theorem witness_TicketsAreFresh :
    let s := { made with quota :=
      { made.quota with ticketCounter := 4294967295, claims := [{ ticket := 4294967295, owner := 7, granted := 1, kind := .restore }] } }
    1 ≤ s.quota.ticketCounter ∧ s.quota.ticketCounter ≤ 4294967295 ∧ s.quota.claims.length ≤ 4096 ∧ s.ticket = 1 ∧
    (∀ c ∈ made.quota.claims, c.ticket ≠ made.quota.ticketCounter) := by
  decide +kernel

theorem witness_ClaimCreatesFromTheFirstMatchingRow :
    let q := { claim7 with owner := 8 }
    (made.linkReady 4 ∧ 0 < q.count.toNat ∧ made.volume? q.volume.toNat = some vol9 ∧ vol9.link = 4 ∧
      made.quota.claims.length < 4096 ∧ made.openClaims 4 < 512 ∧ made.owner? q.owner.toNat = none ∧
      made.quota.owners.length < 16384) ∧
    (made.quota.policy[(0 : Fin 24)] = some row0 ∧ row0.matches q.owner.toNat q.volume.toNat q.tags = true ∧
      ∀ j : Fin 24, ¬j < 0) ∧
    (let s := { made with quota := { made.quota with policy := Vector.replicate 24 none } }
     s.owner? q.owner.toNat = none ∧ ∀ i : Fin 24, s.quota.policy[i] = none) ∧
    (16384 ≤ fullOwners.quota.owners.length ∧ fullOwners.owner? q.owner.toNat = none) := by
  refine ⟨by simp only [State.linkReady]; decide +kernel, by decide +kernel, by decide +kernel, ?_, ?_⟩
  · exact Nat.le_of_eq fullOwners_length.symm
  · simp only [State.owner?, fullOwners, withOwners, List.find?_replicate]; decide +kernel

/-- A claim of server link 4, with no time left. -/
def claim1 : Claim := { ticket := 1, owner := 7, granted := 5, kind := .server 4 0 }

/-- The part with that claim open. -/
def claimed : State := withOwners [{ owner7 with reserved := 5 }] (withClaims [claim1] made)

theorem witness_SettleClosesTheClaim :
    (claimed.linkReady 0 ∧ claimed.mgmt.service ≠ .starting ∧ claimed.mgmt.service ≠ .loading ∧
      claimed.claim? (1 : U32).toNat = some claim1 ∧ claim1.kind = .server 4 0 ∧
      claimed.owner? claim1.owner = some { owner7 with reserved := 5 }) ∧
    claimed.claim? (2 : U32).toNat = none := by
  simp only [State.linkReady]; decide +kernel

theorem witness_ReleaseLowersHeld :
    made.linkReady 4 ∧ made.mgmt.service ≠ .starting ∧ made.mgmt.service ≠ .loading ∧
    16777215 < (16777216 : U32).toNat ∧ made.owner? (16777215 : U32).toNat = none ∧
    made.owner? (7 : U32).toNat = some owner7 := by
  simp only [State.linkReady]; decide +kernel

theorem witness_LapseChargesTheGrantedCount :
    claimed.claim? (1 : U32).toNat = some claim1 ∧ claim1.kind = .server 4 0 ∧
    claimed.owner? claim1.owner = some { owner7 with reserved := 5 } := by decide +kernel

/-- The part with owner 7 in GRACE, its deadline `d` minutes ahead. -/
def inGrace (d : Nat) : State := withOwners [{ owner7 with grace := .grace d }] made

theorem witness_GraceExpiresWhenDue :
    (inGrace 0).mgmt.service ≠ .loading ∧ (inGrace 0).clock.minute = 0 ∧
    (inGrace 0).owner? (7 : U32).toNat = some { owner7 with grace := .grace 0 } ∧
    (inGrace 43200).owner? (7 : U32).toNat = some { owner7 with grace := .grace 43200 } ∧
    (inGrace 43201).owner? (7 : U32).toNat = some { owner7 with grace := .grace 43201 } := by decide +kernel

theorem witness_VolumesAreDefinedAndRemoved :
    made.mgmtReady ∧ configurable made.mgmt.service = true ∧ (47 : U32).toNat ≤ 47 ∧ (7 : U32).toNat < 8 ∧
    made.volume? (47 : U32).toNat = none ∧ made.volume? (9 : U32).toNat = some vol9 ∧
    (∃ x ∈ live3.cat.snaps, x.volume = (9 : U32).toNat) ∧
    (¬((∃ x ∈ made.cat.snaps, x.volume = 9) ∨ (∃ x ∈ made.pres.index, x.volume = 9) ∨ made.roster? 9 ≠ none ∨
      (∃ r ∈ made.rest.queue ++ made.rest.active, r.volume = 9 ∨ r.fenceVolume = 9) ∨ vol9.waiting ≠ [])) := by
  simp only [State.mgmtReady]; decide +kernel

/-- A copy of block 5 of volume 9 in progress in interval 3, for link 4. -/
def pend5 : PendingPreserve :=
  { who := .link 4 2, counted := true, volume := 9, first := 5, count := 1, newCount := 1, alreadyCount := 0,
    own := [(5, 1)], waitsOn := [], faulted := [], gate := [] }

/-- The part with that copy in progress: not quiet. -/
def copying5 : State :=
  let s := withIndex [slotAt 5 3 1 .copying] live3
  { s with pres := { s.pres with pendings := [pend5], free := [0, 2, 3] } }

theorem witness_TakeSnapshotOpensARecord :
    (∀ s ∈ [copying5, made], s.mgmt.queue = [] ∧ s.mgmt.replies.length < 4 ∧ operable s.mgmt.service = true ∧
      labelOk (some [65]) = true ∧ s.volume? 9 ≠ none ∧ s.hasSnap 9 .opening = false ∧ (s.snapsOf 9).length < 24 ∧
      s.cat.snaps.length < 768 ∧ s.nextEpoch 9 ≠ 0 ∧ s.snap? 9 (s.nextEpoch 9) = none) ∧
    copying5.isQuiet 9 = false ∧ made.isQuiet 9 = true ∧ made.nothingAwaits 9 (made.nextEpoch 9) := by
  simp only [State.nothingAwaits, State.noPassAwaits]; decide +kernel

theorem witness_OpeningSnapshotGoesLiveOnAQuietVolume :
    copying5.isQuiet 9 = false ∧ live3.hasSnap 9 .opening = false ∧
    (let s := withSnaps [snap 3 .opening] made
     s.isQuiet 9 = true ∧ (s.snapsOf 9).find? (fun x => x.state = .opening) = some (snap 3 .opening) ∧
     s.snap? 9 3 = some (snap 3 .opening) ∧ s.nothingAwaits 9 3) := by
  simp only [State.nothingAwaits, State.noPassAwaits]; decide +kernel

theorem witness_RetireSnapshotFollowsTheTable :
    let s := withVol (merging 9 none) (withSnaps [snap 3 .live, heldSnap 4 .duplication, snap 5 .retirePending, snap 9 .merging,
      snap 11 .opening] made)
    (s.mgmtReady ∧ operable s.mgmt.service = true ∧ s.volume? 9 = some (merging 9 none)) ∧
    (s.snap? 9 12 = none ∧ s.snap? 9 9 = some (snap 9 .merging) ∧ s.snap? 9 11 = some (snap 11 .opening) ∧
      s.snap? 9 5 = some (snap 5 .retirePending)) ∧
    (s.snap? 9 4 = some (heldSnap 4 .duplication) ∧ (heldSnap 4 .duplication).holds ≠ [] ∧ s.noPassAwaits 9 4 ∧
      s.snap? 9 3 = some (snap 3 .live) ∧ s.hasSnap 9 .merging = true) ∧
    (live3.volume? 9 = some vol9 ∧ live3.snap? 9 3 = some (snap 3 .live) ∧ (snap 3 .live).holds = [] ∧
      live3.hasSnap 9 .merging = false ∧ live3.noPassAwaits 9 3) := by
  simp only [State.mgmtReady, State.noPassAwaits]; decide +kernel

theorem witness_CatalogueReadsChangeNothing :
    let s := withIndex [slotAt 5 3 1 .settled, slotAt 5 7 2 .copying] (withSnaps [snap 3 .live, snap 7 .live] made)
    (s.mgmtReady ∧ s.mgmt.service ≠ .loading ∧ s.volume? 9 = some vol9 ∧ s.snap? 9 3 = some (snap 3 .live) ∧
      (snap 3 .live).kept ∧ s.cat.snaps.Pairwise (fun a b => snapBefore a b = true)) ∧
    (∀ e ∈ s.pres.index, ¬(e.volume = 9 ∧ e.block = 6 ∧ 3 ≤ e.interval)) ∧
    (slotAt 5 3 1 .settled ∈ s.pres.index ∧
      ∀ d ∈ s.pres.index, d = slotAt 5 3 1 .settled ∨ (slotAt 5 3 1 .settled).interval < d.interval) := by
  simp only [State.mgmtReady, Snapshot.kept]; decide +kernel

/-- The part with a merge of snapshot 7 of volume 9 in progress. -/
def merge7 (target : Option Nat) (l : List Entry) : State :=
  withIndex l (withVol (merging 7 target) (withSnaps [snap 3 .live, snap 7 .merging] made))

theorem witness_MergeStepTakesTheNextEntryOrEnds :
    (∀ e ∈ [slotAt 5 7 6 .settled, slotAt 5 7 6 .copying, freshAt 5 7],
      let s := merge7 (some 3) [e, freshAt 6 7]
      let m : Merge := { epoch := 7, target := some 3, cursor := 0, freed := 4 }
      s.volume? 9 = some (merging 7 (some 3)) ∧ (merging 7 (some 3)).merge = some m ∧
      e ∈ s.unvisited 9 m ∧ (∀ x ∈ s.unvisited 9 m, x = e ∨ e.block < x.block) ∧
      (∃ x ∈ s.unvisited 9 m, x ≠ e) ∧ s.entry? 9 e.block 7 = some e ∧ s.entry? 9 e.block 3 = none ∧
      (∀ r ∈ s.rest.active, r.state ≠ .stalled)) ∧
    (let s := merge7 (some 3) []
     s.unvisited 9 { epoch := 7, target := some 3, cursor := 0, freed := 4 } = [] ∧
     (∀ x ∈ s.cat.snaps, x.volume = 9 → x.state = .retirePending → x.holds ≠ []) ∧ s.roster? 9 = none) := by
  decide +kernel

theorem witness_CurrentIntervalFollowsTheNewestSnapshot :
    (∀ x ∈ made.cat.snaps, x.volume ≠ 9) ∧
    (∀ x ∈ [snap 7 .opening, snap 7 .live, snap 7 .retirePending, snap 7 .merging],
      let s := withVol (merging 7 none) (withSnaps [snap 3 .live, x] made)
      x ∈ s.cat.snaps ∧ (∀ y ∈ s.cat.snaps, y.volume = 9 → y = x ∨ y.epoch < x.epoch) ∧
      s.volume? 9 = some (merging 7 none)) := by decide +kernel

theorem witness_PoolRequestsAreAppliedWhole :
    State.reset.mgmtReady ∧ (∀ r ∈ State.reset.rest.active, r.state ≠ .stalled) ∧ State.reset.mgmt.service = .starting ∧
    (8388608 : U32).toNat ≤ 8388608 ∧ configurable made.mgmt.service = true := by
  simp only [State.mgmtReady]; decide +kernel

/-- A PRESERVE of blocks 5 and 6 of volume 9. -/
def keep56 : PreserveReq := { volume := 9, intent := some .write, kind := some .occupied, count := 2, first := 5, owner := 7 }

theorem witness_PreserveTakesASlotForEachNewBlock :
    let s := live3
    let q := { keep56 with count := 4, first := 4294967292 }
    s.linkReady 4 ∧ s.mgmt.service = .serving ∧ s.copyingPreserves 4 < 4 ∧ 4294967292 + 4 - 1 ≤ 4294967295 ∧ q.intent ≠ none ∧
    q.kind = some .occupied ∧ s.volume? 9 = some vol9 ∧ vol9.link = 4 ∧ vol9.waiting = [] ∧
    s.current 9 = .interval 3 none ∧ s.fencedRange 9 4294967292 4 = false ∧
    (∀ i < 4, s.alreadyEntry 9 (4294967292 + i) (.interval 3 none) = none) ∧ 4 ≤ s.indexFree ∧ 524288 + 4 ≤ s.indexFree ∧
    4 ≤ s.pres.free.length ∧ s.owner? q.owner.toNat = some owner7 := by
  simp only [State.linkReady]; decide +kernel

/-- A restore of blocks 5 to 8 of volume 9 as of snapshot 3. -/
def restore58 : RestoreReq :=
  { volume := 9, epoch := 3, first := 5, count := 4, mode := some .inPlace, owner := 7, tags := 0, urgency := some .urgent }

/-- That restore in a state. -/
def restoring (x : RestoreState) : Restore := { queuedRestore 1 restore58 .inPlace .urgent with state := x }

/-- The part with a restore in its one active place. -/
def active (r : Restore) : State :=
  let s := withSnaps [heldSnap 3 (.restore 1)] made
  { s with rest := { s.rest with active := [r] }, mover := { s.mover with restoreQs := [{ id := 1, ops := [] }] } }

theorem witness_PreserveIsAnsweredAtOnce :
    (live3.linkReady 4 ∧ live3.copyingPreserves 4 < 4 ∧ preserveFieldsOk keep56 = true ∧ live3.volume? 3 = none ∧
      live3.volume? 9 = some vol9 ∧ vol9.link ≠ 3 ∧ made.current 9 = .noSnapshot ∧ vol9.waiting = []) ∧
    (withVol (merging 7 none) (withSnaps [snap 7 .merging] made)).current 9 = .noTarget ∧
    ((active { restoring .copying with plan := some { w := 4, v := 0, k := 0 }, cursor := some 0 }).fencedRange 9 8 1 = true ∧
      (active { restoring .copying with plan := some { w := 4, v := 0, k := 0 }, cursor := some 0 }).current 9 =
        .interval 3 none) ∧
    (let s := { live3 with pres := { live3.pres with free := [0] } }
     s.current 9 = .interval 3 none ∧ s.fencedRange 9 5 2 = false ∧
     (∀ i < 2, s.alreadyEntry 9 (5 + i) (.interval 3 none) = none) ∧ 2 ≤ s.indexFree ∧ s.pres.free.length < 2) ∧
    (let s := withIndex [slotAt 5 3 1 .settled, freshAt 6 3] live3
     s.current 9 = .interval 3 none ∧ s.fencedRange 9 5 2 = false ∧ s.gateOf 9 5 2 = [] ∧
     ∀ i < 2, ∃ e ∈ s.pres.index, s.alreadyEntry 9 (5 + i) (.interval 3 none) = some e ∧ e.copying = false) := by
  simp only [State.linkReady]; decide +kernel

/-- The part with `n` index entries. -/
def indexed (n : Nat) : State := withIndex (List.replicate n (slotAt 1 2 3 .settled)) live3

theorem indexed_free (n : Nat) : (indexed n).indexFree = 8388608 - n := by
  simp [State.indexFree, indexed, withIndex, Config.maxEntries]

theorem indexed_meets (n b : Nat) :
    (indexed n).volume? 9 = some vol9 ∧ (indexed n).current 9 = .interval 3 none ∧ (indexed n).entry? 9 b 3 = none := by
  refine ⟨rfl, rfl, ?_⟩
  simp [State.entry?, indexed, withIndex, slotAt]

theorem witness_PreserveIsAnsweredAtOnce_indexFull (b : Nat) :
    (indexed 8388607).indexFree < 2 ∧ (indexed 8388607).volume? 9 = some vol9 ∧
    (indexed 8388607).current 9 = .interval 3 none ∧ (indexed 8388607).entry? 9 b 3 = none :=
  ⟨by rw [indexed_free]; decide, indexed_meets 8388607 b⟩

theorem witness_PreserveWaits :
    let full (n : Nat) : Volume := { vol9 with waiting := List.replicate n { link := 4, seq := 3, req := keep56 } }
    (∀ n ∈ [63, 64],
      let s := withVol (full n) (withSnaps [snap 3 .opening] made)
      (s.intake 4).queue = [] ∧ s.copyingPreserves 4 < 4 ∧ preserveFieldsOk keep56 = true ∧ s.volume? 9 = some (full n) ∧
      (full n).link = 4 ∧ s.current 9 = .opening ∧ (full n).waiting.length = n) ∧
    4 ≤ ({ live3 with pres := { live3.pres with pendings := List.replicate 4 pend5 } } : State).copyingPreserves 4 := by
  decide +kernel

/-- The part with the rescue timer run out. -/
def rescueDue (l : List Snapshot) : State :=
  let s := withSnaps l made
  { s with pres := { s.pres with rescueTimer := some 0, belowLow := true } }

theorem witness_RescueRetiresTheOldestNightly :
    let fits (s : State) (x : Snapshot) : Prop := x.kind = .nightly ∧ x.state = .live ∧ x.holds = [] ∧
      s.hasSnap x.volume .merging = false
    (made.pres.rescueTimer ≠ some 0) ∧
    (let s := rescueDue [snap 3 .live]
     s.pres.rescueTimer = some 0 ∧ s.pres.belowLow = true ∧ s.mgmt.service = .serving ∧ ∀ x ∈ s.cat.snaps, ¬fits s x) ∧
    (let other : Snapshot := { nightly 1 .live with volume := 3 }
     let s := rescueDue [other, nightly 3 .live]
     fits s other ∧ s.cat.snaps.Pairwise (fun a b => snapBefore a b = true) ∧
     ∀ y ∈ s.cat.snaps, y = other ∨ (other.creation.getD 0 = y.creation.getD 0 ∧ other.volume < y.volume)) := by
  decide +kernel

/-- Operations of three clients at the mover. -/
def copyOp : StoreOp :=
  { op := .read, area := .volume 9, address := 5, length := 1, thenWrite := some (.pool, 1), client := .preservation none }

def restoreOp : StoreOp :=
  { op := .free, area := .volume 9, address := 5, length := 1, thenWrite := none, client := .restore 1 5 }

def dupOp : StoreOp :=
  { op := .read, area := .pool, address := 1, length := 1, thenWrite := none,
    client := .duplication { pass := 5, consignment := 1, block := 5 } }

def serviceOp (op : OpKind) (address : Nat) : StoreOp :=
  { op := op, area := .tables, address := address, length := 1, thenWrite := none, client := .service }

theorem witness_ArbiterGrantsInOrder :
    let m : Mover := { made.mover with restoreQs := [{ id := 3, ops := [restoreOp] }, { id := 5, ops := [] }], lastRestore := 3 }
    let copy : Issued := { op := copyOp, phase := .first, sentSeq := 0, remaining := 5 }
    let full : Mover := { m with tags := Vector.ofFn fun i => if i.val < 24 then some copy else none }
    State.reset.mover.mode = .drained ∧ made.mover.mode ≠ .drained ∧ m.preservationQ = [] ∧
    m.tagsHeld Client.isPreservation < 24 ∧ 24 ≤ full.tagsHeld Client.isPreservation ∧
    made.mover.nextRestore = none ∧ m.nextRestore = some { id := 3, ops := [restoreOp] } ∧
    (∀ x ∈ m.restoreQs, x.ops ≠ [] → x.id ≤ m.lastRestore) ∧
    ∃ x ∈ ({ m with lastRestore := 2 } : Mover).restoreQs, x.ops ≠ [] ∧ 2 < x.id := by decide +kernel

/-- The part with an operation issued on tag 31. -/
def onTag (i : Issued) (s : State) : State := { s with mover := { s.mover with tags := s.mover.tags.set 31 (some i) } }

def issued (op : StoreOp) (phase : Phase) (remaining : Nat) : Issued :=
  { op := op, phase := phase, sentSeq := 3, remaining := remaining }

theorem witness_CopyReadIsFollowedByItsWrite :
    let i := issued copyOp .first 4
    (onTag i copying5).answersPhase 31 3 31 i ∧ i.phase = .first ∧ i.op.op = .read ∧ i.op.length = 1 ∧
    i.op.thenWrite = some (.pool, 1) ∧ i.op.client = .preservation none ∧ (List.replicate 4096 (0 : Byte)).length = 4096 := by
  simp only [State.answersPhase, List.length_replicate]; decide +kernel

theorem witness_CopyDoneSettlesAndAnswers :
    let i := issued copyOp .copyWrite 4
    let s := onTag i copying5
    s.answersPhase 31 3 31 i ∧ i.phase = .copyWrite ∧ i.op.thenWrite = some (.pool, 1) ∧ i.op.client = .preservation none ∧
    s.copyingEntry 1 = some (slotAt 5 3 1 .copying) ∧ s.calm ∧ (∀ p ∈ s.pres.pendings, p.who.restoreId = none) := by
  simp only [State.answersPhase, State.calm]; decide +kernel

theorem witness_CopyFaultRemovesTheEntry :
    let e := slotAt 5 3 1 .copying
    ∀ i ∈ [issued copyOp .first 0, issued copyOp .copyWrite 0, issued copyOp .copyWrite 1],
      let s := onTag i copying5
      s.mover.tag 31 = some i ∧ i.op.thenWrite = some (.pool, 1) ∧ i.op.client = .preservation none ∧ i.op.op = .read ∧
      i.op.area = .volume 9 ∧ s.copyingEntry 1 = some e ∧ s.entry? e.volume e.block e.interval = some e ∧
      e.owner? = some 7 ∧ s.calm ∧ (∀ p ∈ s.pres.pendings, p.who.restoreId = none) ∧
      ((31 : Byte).toNat = (31 : Fin 32).val ∧ i.sentSeq = 3) := by
  simp only [State.calm]; decide +kernel

theorem witness_UselessFramesChangeNothing :
    (∀ t : Fin 32, made.mover.tag t = none) ∧ receive [165, 0, 0] = [.lengthFault] ∧
    (∀ kind ∈ [(66 : Byte), 70], storeCommandOf kind 1 [0, 0, 0, 0, 0, 0, 0, 0] = none) ∧
    (∀ kind ∈ [(87 : Byte), 93], offsiteCommandOf kind 1 [0, 0, 0, 0, 0, 0, 0, 0] = none) := by decide +kernel

theorem witness_StepTakesTheFront :
    ({ made with pending := [.secondsTick] } : State).pending = [.secondsTick] ∧ made.pending = [] := by decide +kernel

theorem witness_ManagementFramesAreTheirRequests :
    mgmtUnits 18 = some 1 ∧ (toBe 4 7 ++ toBe 4 0).length = 8 * 1 ∧
    (mgmtRequestOf 18 (toBe 4 7 ++ toBe 4 0)).isSome = true ∧
    (let f := frameBytes 18 3 (toBe 4 7 ++ toBe 4 0)
     f = f.take 7 ++ f.drop 7 ∧ (made.begunMgmt (f.take 7)).mgmt.begun = f.take 7) ∧
    (let f := frameBytes 48 3 []
     f = f.take 4 ++ f.drop 4 ∧ (made.begunMgmt (f.take 4)).mgmt.begun = f.take 4) := by decide +kernel

theorem witness_ServerFramesAreTheirRequests :
    let r : ServerRequest := .settle { ticket := 1, used := 0 }
    let f := frameBytes (serverCode r) 3 (serverBody r)
    f = f.take 7 ++ f.drop 7 ∧ f.drop 7 ≠ [] ∧ ((made.begunOn 4 (f.take 7)).intake 4).begun = f.take 7 ∧
      (made.intake 4).begun = [] := by decide +kernel

/-- The part with `n` requests waiting at the intake of link 4. -/
def behind (n : Nat) : State :=
  let waiting : Intake := { queue := List.replicate n (2, .settle { ticket := 1, used := 0 }), held := false, mark := .check, begun := [] }
  { made with links := made.links.set 4 waiting }

theorem witness_FramesAreTestedOnArrival :
    (receive [165, 0, 0] = [.lengthFault] ∧ receive [165, 128, 67] = [.lengthFault]) ∧
    (let body := serverBody (.claim claim7)
     receive (frameBytes 1 2 body) = [.frame 1 2 body] ∧ serverUnits 1 = some 2 ∧ body.length = 8 * 2 ∧
     serverRequestOf 1 body = some (.claim claim7) ∧ ((behind 0).intake 4).queue = [] ∧ ((behind 1).intake 4).queue ≠ [] ∧
     ((behind 15).intake 4).queue.length < 16 ∧ 16 ≤ ((behind 16).intake 4).queue.length) ∧
    receive (frameBytes 1 2 [0, 0, 0, 0, 0, 0, 0, 0]) = [.frame 1 2 [0, 0, 0, 0, 0, 0, 0, 0]] ∧
    receive ((frameBytes 51 2 []).dropLast ++ [0]) = [.checkFault] ∧
    (let body := List.replicate 8 0
     mgmtUnits 51 = some 1 ∧ mgmtRequestOf 51 body = some .readStatus ∧ receive (frameBytes 51 2 []) = [.frame 51 2 body]) := by
  decide +kernel

/-- The part with replies waiting for the sender. -/
def replied (n : Nat) (queue : List (U16 × MgmtRequest)) : State :=
  { made with mgmt :=
    { made.mgmt with replies := List.replicate n { seq := 1, code := 51, status := .ok, flags := 0, data := .empty }, queue := queue } }

theorem witness_SenderSendsRepliesBeforeNotices :
    (made.mgmt.replies = [] ∧ made.mgmt.notices = []) ∧
    (∃ n, (made.raise (.poolLow 1 2)).mgmt.notices = [n] ∧ (made.raise (.poolLow 1 2)).mgmt.replies = []) ∧
    ((replied 5 [(2, .readStatus)]).mgmt.replies.tail.length = 4 ∧ (replied 4 [(2, .readStatus)]).mgmt.replies.tail.length = 3 ∧
      (replied 4 [(2, .readStatus)]).mgmt.mark = .none) := by
  exact ⟨by decide +kernel, ⟨_, rfl, rfl⟩, by decide +kernel⟩

/-- The part after reset with a request waiting. -/
def opening : State := { State.reset with pending := [.openService 1] }

theorem witness_EveryStepKeepsTheBounds : opening.Bounded ∧ ∃ t, step opening = .next t := by
  refine ⟨?_, _, rfl⟩
  constructor
  case volumeSnaps => exact fun v => by simp [opening, State.reset, Catalogue.reset]
  case roster => exact ⟨List.nodup_nil, by decide +kernel⟩
  all_goals decide +kernel

theorem witness_EveryStepKeepsTheOwnersOrdered :
    ({ made with pending := [.openService 1] } : State).OwnersOrdered ∧
    ∃ t, step { made with pending := [.openService 1] } = .next t := by
  refine ⟨?_, _, rfl⟩
  simp only [State.OwnersOrdered]; decide +kernel

theorem witness_RequestRestoreIsCheckedAndQueued :
    (live3.mgmtReady ∧ operable (inState .starting live3).mgmt.service = false ∧ operable live3.mgmt.service = true) ∧
    (restore58.volume.toNat ≤ 47 ∧ restore58.count.toNat ≠ 0 ∧ restore58.count.toNat ≤ 16777216 ∧
      restore58.first.toNat + restore58.count.toNat - 1 ≤ 4294967295 ∧ restore58.owner.toNat ≤ 16777215 ∧
      restore58.mode = some .inPlace ∧ restore58.urgency = some .urgent) ∧
    (live3.volume? 1 = none ∧ live3.volume? 9 ≠ none ∧ live3.snap? 9 4 = none ∧ live3.snap? 9 3 = some (snap 3 .live) ∧
      (snap 3 .live).state = .live ∧ live3.owner? 8 = none ∧ live3.owner? 7 ≠ none ∧ live3.rest.queue.length < 16) ∧
    (let s := withSnaps [snap 3 .live, snap 4 .opening] made
     s.rest.active = [] ∧ s.rest.queue = [] ∧ s.hasSnap 9 .opening = true ∧ s.snap? 9 3 = some (snap 3 .live)) ∧
    (1 ≤ live3.rest.idCounter ∧ live3.rest.idCounter ≤ 65535 ∧ live3.rest.queue.length + live3.rest.active.length ≤ 20) ∧
    (List.replicate 16 (restoring .queued)).length = 16 := by
  simp only [State.mgmtReady]; decide +kernel

theorem witness_RequestRestoreIsCheckedAndQueued_fields :
    badRestore { restore58 with count := 0 } ∧ badRestore { restore58 with count := 16777217 } ∧
    badRestore { restore58 with volume := 48 } ∧ badRestore { restore58 with mode := none } ∧
    ¬badRestore restore58 ∧ modeIsFor restore58 .inPlace := by
  refine ⟨Or.inr (Or.inl (by decide)), Or.inr (Or.inr (Or.inl (by decide))), Or.inl (by decide),
    Or.inr (Or.inr (Or.inr (Or.inr (Or.inr (Or.inl rfl))))), ?_, Or.inl ⟨rfl, rfl⟩⟩
  rintro (h | h | h | h | h | h | h | ⟨v, t, h, -⟩)
  case inr.inr.inr.inr.inr.inr.inr => cases h
  all_goals exact absurd h (by decide)

/-- A stalled restore with the minutes left given. -/
def stalled (n : Nat) (blocks : List (Nat × BlockStep)) : Restore :=
  { restoring .stalled with stall := some n, lastRefusal := some .poolEmpty, inProgress := blocks, written := 2 }

theorem witness_CancelAndReadRestoreFollowTheTables :
    (∀ r ∈ [restoring .planning, restoring .fencing, stalled 3 [], stalled 3 [(5, .writing)], restoring .ending],
      let s := active r
      s.mgmt.queue = [] ∧ s.mgmt.replies.length < 4 ∧ operable s.mgmt.service = true ∧
      (s.rest.queue.find? fun d => d.id = 1) = none ∧ s.active? 1 = some r ∧ r.ticket = none ∧
      (s.snap? r.volume r.epoch).all (fun x => x.state = .live) = true ∧ s.rest.queue = []) ∧
    (let s := { live3 with rest := { live3.rest with queue := [{ restoring .queued with id := 2 }, restoring .queued] } }
     (s.rest.queue.find? fun d => d.id = 1) = some (restoring .queued) ∧
     s.rest.queue = [{ restoring .queued with id := 2 }] ++ restoring .queued :: []) ∧
    (let s := { live3 with rest := { live3.rest with ended := [restoring .done] } }
     (s.rest.ended.find? fun d => d.id = 1) = some (restoring .done) ∧ s.active? 1 = none) ∧
    (live3.active? 1 = none ∧ ∀ r ∈ live3.rest.ended, r.id ≠ 1) ∧
    (inState .loading made).mgmt.service = .loading := by decide +kernel

theorem witness_StallExpiryEndsTheRestore :
    (∀ r ∈ [stalled 0 [], stalled 0 [(5, .writing)], stalled 1 [], { stalled 0 [] with ticket := some 1 }],
      let s := withClaims [{ ticket := 1, owner := 7, granted := 4, kind := .restore }] (active r)
      s.active? 1 = some r ∧ r.state = .stalled ∧ r.lastRefusal = some .poolEmpty ∧
      (s.snap? r.volume r.epoch).all (fun x => x.state = .live) = true ∧ s.rest.queue = [] ∧
      s.claim? 1 = some { ticket := 1, owner := 7, granted := 4, kind := .restore } ∧ s.owner? 7 = some owner7) := by
  decide +kernel

/-- The part with the schedule as given. -/
def withSched (x : ScheduleState) (roster : List RosterEntry) (s : State) : State :=
  { s with sched := { s.sched with state := x, roster := roster } }

/-- A roster entry for volume 9. -/
def entry9 (base : Nat) (target : Option Nat) (pass : PassState) : RosterEntry :=
  { volume := 9, base := base, keep := 2, target := target, deferred := false, pass := pass }

/-- A pass on volume 9 from snapshot 2 to snapshot 7. -/
def pass5 (phase : PassPhase) : Pass :=
  { number := 5, volume := 9, base := 2, target := 7, phase := phase, cursor := none, nextConsignment := 3, inHand := none,
    recordsSent := 4, recordsCommitted := 1, answerAttempt := 1, answerDeadline := none, reason := none }

/-- The part with that pass and the consignments given. -/
def passing (p : Pass) (w : List Consignment) : State :=
  let s := withSched .running [entry9 2 (some 7) .sending] (withSnaps [heldSnap 2 .duplication, heldSnap 7 .duplication] made)
  { s with offsite := { s.offsite with pass := some p, window := w, credits := 2 } }

theorem witness_ScheduleRequestsFollowTheState :
    made.mgmtReady ∧ configurable made.mgmt.service = true ∧ configurable (inState .saving made).mgmt.service = false ∧
    operable (inState .starting made).mgmt.service = false ∧ operable made.mgmt.service = true ∧
    made.sched.state = .stopped ∧ (withSched .running [] made).sched.state ≠ .stopped ∧
    (withSched .running [] made).offsite.pass = none ∧
    (withSched .running [entry9 2 none .waiting] made).rosterDistinct ∧
    (passing (pass5 .sending) []).offsite.pass = some (pass5 .sending) ∧
    (withSched .stopping [] made).sched.state = .stopping := by
  simp only [State.mgmtReady, State.rosterDistinct]; decide +kernel

theorem witness_RosterRequestsKeepTheBaseHeld :
    let s := withSched .stopped [entry9 2 none .skipped] (withSnaps [heldSnap 2 .duplication, snap 7 .live] made)
    (s.mgmtReady ∧ configurable s.mgmt.service = true ∧ operable s.mgmt.service = true ∧
      configurable (inState .loading s).mgmt.service = false ∧ operable (inState .loading s).mgmt.service = false) ∧
    (s.volume? 1 = none ∧ made.volume? 9 ≠ none ∧ made.roster? 9 = none ∧ s.roster? 9 = some (entry9 2 none .skipped)) ∧
    (s.offsite.pass = none ∧ s.snap? 9 2 = some (heldSnap 2 .duplication) ∧ (heldSnap 2 .duplication).state = .live ∧
      s.snap? 9 7 = some (snap 7 .live) ∧ s.snap? 9 8 = none ∧ (7 : Nat) ≠ (entry9 2 none .skipped).base) ∧
    (passing (pass5 .sending) []).roster? 9 = some (entry9 2 (some 7) .sending) ∧ (pass5 .sending).volume = 9 := by
  simp only [State.mgmtReady]; decide +kernel

theorem witness_StatusReadsReturnWhatStands :
    made.mgmtReady ∧ made.mgmt.service ≠ .loading ∧ (inState .loading made).mgmtReady ∧ made.mgmt.job = none ∧
    made.offsite.pass = none := by
  simp only [State.mgmtReady]; decide +kernel

/-- The part ready for a pass on the first entry. -/
def readyFor (e : RosterEntry) : State :=
  let s := withSched .running [e] (withSnaps [heldSnap 2 .duplication, snap 7 .live] made)
  { s with sched := { s.sched with windowOpen := true } }

theorem witness_PassBeginsOnTheFirstReadyEntry :
    (∀ b ∈ [0, 2, 7, 8],
      let e := entry9 b (some 7) .waiting
      let s := readyFor e
      s.sched.windowOpen = true ∧ s.sched.state = .running ∧ s.mgmt.service = .serving ∧ s.offsite.link = .up ∧
      s.offsite.pass = none ∧ (s.sched.roster.map (·.volume)).Nodup ∧ s.sched.roster = [] ++ e :: [] ∧
      e.pass = .waiting ∧ e.target = some 7 ∧ s.snap? e.volume 7 = some (snap 7 .live)) ∧
    (let s := readyFor (entry9 2 none .done)
     let t := { s with sched := { s.sched with runOpen := true } }
     t.sched.runOpen = true ∧ t.offsite.pass = none ∧ ∀ e ∈ t.sched.roster, e.pass ≠ .waiting) ∧
    made.sched.windowOpen = false := by decide +kernel

/-- The part with an advance of the cycle counter due. -/
def advancing (counter : Nat) (mode : RunMode) (roster : List RosterEntry) (s : State) : State :=
  { s with sched :=
    { s.sched with state := .running, mode := mode, counter := counter, advancesDue := 1, roster := roster } }

theorem witness_CycleAdvanceTakesItsPoints :
    (∀ n ∈ [0, 58, 59, 88, 89, 388, 389, 1438, 1439],
      let s := advancing n .single [entry9 2 none .skipped] made
      0 < s.sched.advancesDue ∧ s.sched.state ≠ .stopped ∧ s.mgmt.service ≠ .loading ∧ s.sched.live.point = 60 ∧
      s.sched.live.window = 90 ∧ s.sched.live.window + s.sched.live.length = 390 ∧ s.sched.live.cycle = 1440 ∧
      s.offsite.pass = none ∧ s.sched.runOpen = false ∧ (s.sched.roster.map (·.volume)).Nodup ∧
      (if s.sched.nextWritten then s.sched.next else s.sched.live).window = 90) ∧
    made.sched.advancesDue = 0 ∧
    (∀ x ∈ [PassPhase.sending, .closing], (advancing 389 .repeating [entry9 2 (some 7) .sending] (passing (pass5 x) [])).offsite.pass
      = some (pass5 x)) ∧
    (let s := advancing 59 .repeating [entry9 2 none .skipped] copying5
     s.sched.roster = [entry9 2 none .skipped] ∧ s.hasSnap 9 .opening = false ∧ (s.snapsOf 9).length < 24 ∧
     s.cat.snaps.length < 768 ∧ s.nextEpoch 9 ≠ 0 ∧ s.snap? 9 (s.nextEpoch 9) = none ∧ s.isQuiet 9 = false ∧
     (inState .paused s).mgmt.service ≠ .serving) := by decide +kernel

/-- The pass with an answer deadline run out. -/
def dueAnswer (phase : PassPhase) (attempt : Nat) : Pass :=
  { pass5 phase with answerAttempt := attempt, answerDeadline := some 0 }

theorem witness_AnswersToPassOpenAndClose :
    (pass5 .opening).number = (5 : U32).toNat ∧ (pass5 .opening).phase = .opening ∧ (pass5 .sending).phase ≠ .opening ∧
    (∀ a ∈ [1, 2, 3],
      (let s := passing (dueAnswer .opening a) []
       s.offsite.pass = some (dueAnswer .opening a) ∧ s.awaits (dueAnswer .opening a) (.passOpen 5 9 2 7) ∧
       s.bearsFault ∧ (dueAnswer .opening a).answerDeadline = some 0 ∧ s.offsite.link = .up) ∧
      (let s := passing (dueAnswer .closing a) []
       s.awaits (dueAnswer .closing a) (.passClose 5 4) ∧ s.bearsFault)) ∧
    (pass5 .opening).answerDeadline ≠ some 0 := by
  simp only [State.awaits, State.bearsFault]; decide +kernel

/-- A consignment of the pass. -/
def sent1 (attempt : Nat) (state : ConsignmentState) : Consignment :=
  { number := 1, attempt := attempt, blocks := [5, 6], state := state }

theorem witness_ConsignmentsAreCommittedOrFail :
    (∀ c ∈ [sent1 1 (.sent 0), sent1 3 (.sent 0), sent1 1 .due, sent1 2 (.sent 9)],
      let s := passing (pass5 .sending) [c]
      s.offsite.pass = some (pass5 .sending) ∧ (pass5 .sending).number = (5 : U32).toNat ∧
      (s.offsite.window.find? fun d => d.number = (1 : U32).toNat) = some c ∧ s.bearsFault ∧ s.offsite.link = .up ∧
      ∀ d ∈ s.offsite.window, d.number ≠ (2 : U32).toNat) ∧
    (sent1 1 (.sent 0)).isSent = true ∧ (sent1 1 .due).isSent = false ∧ (sent1 1 .due).state ≠ .sent 0 ∧
    (passing (pass5 .abandoning) [sent1 1 (.sent 0)]).offsite.pass = some (pass5 .abandoning) ∧ made.offsite.pass = none := by
  simp only [State.bearsFault]; decide +kernel

theorem witness_AbandonmentBeginsAndEnds :
    (passing (pass5 .sending) [sent1 1 .due]).offsite.pass = some (pass5 .sending) ∧
    (let s := passing (pass5 .abandoning) []
     s.offsite.pass = some (pass5 .abandoning) ∧ s.offsite.window = [] ∧
     (∀ r ∈ s.duplicationReads, r.pass ≠ (pass5 .abandoning).number) ∧ s.sched.state = .running ∧
     s.sched.windowOpen = false ∧ (∀ e ∈ s.sched.roster, e.base ≠ (pass5 .abandoning).target) ∧
     ∀ x ∈ s.cat.snaps, x.state = .live) := by decide +kernel

/-- The pass with the consignment given in hand. -/
def inHand (l : Reading) : Pass := { pass5 .sending with inHand := some { number := 2, records := l } }

theorem witness_EngineActsByItsConditions :
    made.offsite.pass = none ∧ (pass5 .sending).phase ≠ .abandoning ∧
    ((passing (inHand [(5, .void), (6, .data [])]) []).shipping ∧
      [(5, BlockRecord.void), (6, .data [])].length ≤ (passing (inHand [(5, .void), (6, .data [])]) []).offsite.credits) ∧
    (let c := sent1 1 (.rereading [(5, .void)])
     ((passing (pass5 .sending) [c]).offsite.window.find? fun c => c.isRereading) = some c) ∧
    ((passing (pass5 .sending) []).noneReread ∧ (passing (pass5 .sending) [sent1 1 .due]).noneReread ∧
      (pass5 .sending).inHand = none ∧ (pass5 .sending).cursor = none ∧ (pass5 .draining).phase = .draining ∧
      (passing (pass5 .draining) []).offsite.heldSealed = none) ∧
    ((passing (pass5 .draining) [sent1 1 .due]).offsite.window.find? fun c => c.state = .due) = some (sent1 1 .due) := by
  simp only [State.shipping, State.noneReread]; decide +kernel

theorem witness_EngineActsByItsConditions_delta :
    let p := { pass5 .sending with cursor := some 5 }
    let s := withIndex [slotAt 5 6 1 .settled] (passing p [])
    s.offsite.pass = some p ∧ s.inDelta p 5 5 ∧ (∀ b, ¬s.inDelta p 6 b) ∧
    (withSched .stopping [] s).sched.state = .stopping := by
  refine ⟨rfl, ⟨Nat.le_refl _, slotAt 5 6 1 .settled, by decide +kernel⟩, ?_, rfl⟩
  rintro b ⟨h, e, he, -, hb, -⟩
  have : e = slotAt 5 6 1 .settled := by simpa [withIndex] using he
  subst this
  simp [slotAt] at hb
  omega

theorem witness_EngineActsByItsConditions_lookups :
    (∀ c ∈ [(slotAt 5 7 1 .copying), slotAt 5 7 1 .settled],
      let s := withIndex [c] (passing (inHand [(5, .todo)]) [])
      s.lookup 9 5 7 = .slot 1 7 7 (if c.copying then .copying else .settled) ∧ s.mgmt.service = .serving ∧
      s.duplicationReads.length < 64) ∧
    (withIndex [freshAt 5 7] (passing (inHand [(5, .todo)]) [])).lookup 9 5 7 = .fresh 7 ∧
    (passing (inHand [(5, .todo)]) []).lookup 9 5 7 = .live ∧
    (List.replicate 64 dupOp).length = 64 := by decide +kernel

theorem witness_EngineActsByItsConditions_waits :
    (∀ l ∈ [[(5, BlockRecord.void), (6, .void), (7, .void)], [(5, .reading)]],
      let s := passing (inHand l) []
      (inHand l).phase = .sending ∧ (inHand l).cursor = none ∧ s.noneReread ∧ (inHand l).inHand = some { number := 2, records := l }) ∧
    ¬allIn [(5, .reading)] ∧ ¬[(5, BlockRecord.void), (6, .void), (7, .void)].length ≤ (passing (pass5 .sending) []).offsite.credits ∧
    (let p := { pass5 .sending with cursor := some 5 }
     let s := withIndex [slotAt 5 6 1 .settled] (passing p (List.replicate 16 (sent1 1 (.sent 9))))
     s.inDelta p 5 5 ∧ s.noneReread ∧ s.sched.state ≠ .stopping ∧ (∀ x ∈ s.offsite.window, x.state ≠ .due) ∧
       16 ≤ s.offsite.window.length) ∧
    (passing (pass5 .draining) [sent1 1 (.sent 9)]).noneReread ∧ (passing (pass5 .opening) []).noneReread := by
  refine ⟨?_, ?_, by decide +kernel, ⟨⟨Nat.le_refl _, slotAt 5 6 1 .settled, by decide +kernel⟩, ?_⟩, ?_⟩
  · simp only [State.noneReread]; decide +kernel
  · intro h; have := h _ (List.mem_singleton.mpr rfl); simp at this
  all_goals simp only [State.noneReread]; decide +kernel

theorem witness_SealMovesTheBaseForward :
    let s := passing (pass5 .closing) []
    (s.offsite.pass = some (pass5 .closing) ∧ (pass5 .closing).number = (5 : U32).toNat ∧ (pass5 .closing).phase = .closing ∧
      (pass5 .sending).phase ≠ .closing ∧ (inState .saving s).mgmt.service = .saving) ∧
    (s.roster? 9 = some (entry9 2 (some 7) .sending) ∧ s.sched.state = .running ∧ s.sched.windowOpen = false ∧
      s.snap? 9 2 = some (heldSnap 2 .duplication) ∧ (heldSnap 2 .duplication).state = .live) ∧
    (let l := [nightly 3 .live, nightly 4 .live]
     nightly 3 .live ∈ l ∧ (nightly 3 .live).holds = [] ∧ ∀ y ∈ l, y = nightly 3 .live ∨ (nightly 3 .live).epoch < y.epoch) := by
  decide +kernel

/-- The part with the offsite link as given. -/
def onOffsite (f : Offsite → Offsite) (s : State) : State := { s with offsite := f s.offsite }

theorem witness_LinkHealthFollowsFaultsSilenceAndProbes :
    (let s := onOffsite (fun o => { o with faultCounter := 31 }) made
     s.offsite.pass = none ∧ s.offsite.link = .up ∧ s.timers.faultThreshold < s.offsite.risen) ∧
    (made.offsite.silence < made.timers.silenceTime) ∧
    (let s := onOffsite (fun o => { o with silence := 120, probeTimer := 0 }) made
     s.offsite.link ≠ .silent ∧ s.timers.silenceTime ≤ s.offsite.silence ∧ s.offsite.probeTimer = 0 ∧
     (passing (pass5 .sending) [sent1 1 (.sent 4)]).offsite.window = [sent1 1 (.sent 4)] ∧ (sent1 1 (.sent 4)).isSent = true) ∧
    made.offsite.probeTimer ≠ 0 ∧
    (∀ h ∈ [[], [true], [false, true], [true, false, false]],
      let s := onOffsite (fun o => { o with link := .degraded, probeTimer := 0, awaitedProbe := some 6, probeHistory := h }) made
      s.offsite.awaitedProbe = some 6 ∧ s.offsite.awaitedProbe ≠ some 7 ∧ s.offsite.link ≠ .up ∧
      (((true :: h).take 3).countP id < 2 ↔ h = [])) ∧
    ((onOffsite (fun o => { o with link := .degraded }) (passing (pass5 .opening) [])).awaits (pass5 .opening)
      (.passOpen 5 9 2 7)) := by
  simp only [State.awaits]; decide +kernel

theorem witness_ServiceOpensAndPauses :
    (made.mgmtReady ∧ made.mgmt.service = .serving ∧ (∀ l : Link, (made.intake l).queue = []) ∧
      (∀ i : Fin 32, made.mover.tag i = none) ∧ made.mover.preservationQ = [] ∧ made.mover.duplicationQ = []) ∧
    (∀ x ∈ [ServiceState.starting, .paused],
      let s := inState x live3
      s.mgmt.service = x ∧ s.mgmtReady ∧ (∀ v ∈ s.cat.volumes, v.waiting = []) ∧
      (∀ x ∈ s.cat.snaps, x.state = .retirePending → x.holds ≠ []) ∧ s.rest.queue = [] ∧ s.rest.active = [] ∧
      s.offsite.pass = none) ∧
    (∀ x ∈ [ServiceState.pausing, .saving, .loading], (inState x made).mgmt.service = x) ∧
    (onTag (issued copyOp .first 4) made).mover.tag 31 ≠ none := by
  simp only [State.mgmtReady]; decide +kernel

/-- The part in a save or load, with its last operation issued. -/
def working (x : ServiceState) (job : ImageJob) (op : OpKind) : State :=
  let s := onTag (issued (serviceOp op 0) .first 4) (inState x made)
  { s with mgmt := { s.mgmt with job := some job } }

theorem witness_SavesAndLoadsBeginAndEnd :
    ((inState .paused made).mgmtReady ∧ State.reset.mgmtReady ∧ State.reset.mgmt.service = .starting) ∧
    (∀ f ∈ [false, true],
      let job : ImageJob := .save made.counts 8 0 3 .complete 4 1 3 f
      let s := working .saving job .write
      s.answersPhase 31 3 31 (issued (serviceOp .write 0) .first 4) ∧ s.mgmt.job = some job ∧ s.offsite.heldSealed = none) ∧
    (let job : ImageJob := .load none 1 1 0 false []
     let s := working .loading job .read
     s.answersPhase 31 3 31 (issued (serviceOp .read 0) .first 4) ∧ s.mgmt.job = some job ∧
     (List.replicate 4096 (0 : Byte)).length = 4096 ∧ readHeader (List.replicate 4096 0) = none) := by
  simp only [State.mgmtReady, State.answersPhase, List.length_replicate]; decide +kernel

/-- The part with a SERVER claim, the RESTORE claim of a SIDE restore, that restore's pending preservation, and a snapshot
OPENING. -/
def accounted : State :=
  let r : Restore := { restoring .copying with mode := .side 9 100, ticket := some 6, cursor := some 9,
                                               inProgress := [(5, .preserving (some 1))] }
  let s := withOwners [{ owner7 with reserved := 13 }] (withClaims
    [{ ticket := 5, owner := 7, granted := 9, kind := .server 4 60 }, { ticket := 6, owner := 7, granted := 4, kind := .restore }]
    (withSnaps [heldSnap 3 (.restore 1), snap 4 .opening] (active r)))
  { s with pres := { s.pres with pendings := [{ pend5 with who := .restore 1, counted := false, first := 100 }] } }

theorem witness_RestartLeavesNothingInFlight_accounted : accounted.Accounted ∧ accounted.mgmtReady ∧
    accounted.mgmt.service ≠ .starting ∧ accounted.mgmt.service ≠ .loading := by
  refine ⟨?_, ⟨by decide +kernel, by decide +kernel⟩, by decide +kernel, by decide +kernel⟩
  constructor
  case pendings =>
    intro p hp id h
    obtain rfl : p = { pend5 with who := .restore 1, counted := false, first := 100 } := by simpa [accounted] using hp
    exact ⟨_, List.mem_singleton.mpr rfl, by cases h; rfl⟩
  all_goals decide +kernel

/-- Those accounts with a roster entry for the volume, a queue of the restore's at the mover, and a request waiting. -/
def sound : State :=
  { withSched .running [entry9 2 (some 4) .waiting] accounted with
    mover := { accounted.mover with restoreQs := [{ id := 1, ops := [] }] }
    pending := [.takeSnapshot 1 9 none] }

theorem witness_EveryStepKeepsTheAccounts : sound.Sound ∧ ∃ t, step sound = .next t := by
  refine ⟨?_, _, rfl⟩
  obtain ⟨a1, a2, a3, a4, a5⟩ := witness_RestartLeavesNothingInFlight_accounted.1
  constructor
  case bounded =>
    constructor
    all_goals first
      | decide +kernel
      | exact fun v => Nat.le_trans (List.length_filter_le _ _) (by decide +kernel)
      | exact ⟨by unfold State.rosterDistinct; decide +kernel, by decide +kernel⟩
  case owners => simp only [State.OwnersOrdered]; decide +kernel
  case accounted => exact ⟨a1, a2, a3, a4, a5⟩
  case loading => intro _ _ _ _ _ _ h; cases h
  case active =>
    intro r hr
    obtain rfl := List.mem_singleton.mp hr
    refine ⟨by decide +kernel, by decide +kernel, fun c h => ?_, by decide +kernel, fun x hx => ?_⟩
    · cases h; decide +kernel
    · obtain rfl := List.mem_singleton.mp hx
      exact ⟨by decide +kernel, 9, rfl, by decide +kernel⟩
  case preserving =>
    refine ⟨by decide +kernel, fun x hx => ?_⟩
    obtain rfl : x = (1, 100) := List.mem_singleton.mp hx
    exact ⟨_, List.mem_singleton.mpr rfl, rfl, 5, some 1, List.mem_singleton.mpr rfl, rfl⟩
  case moving => exact ⟨List.nodup_nil, fun x hx => by cases hx⟩
  all_goals decide +kernel

theorem witness_RestartLeavesNothingInFlight :
    made.mgmtReady ∧ (inState .starting made).mgmt.service = .starting ∧ made.mgmt.service ≠ .starting ∧
    made.mgmt.service ≠ .loading := by
  simp only [State.mgmtReady]; decide +kernel

theorem witness_TimersAndClockAreSet :
    made.mgmtReady ∧ made.mgmt.service ≠ .loading ∧ (inState .loading made).mgmt.service = .loading ∧
    (withOwners [{ owner7 with owner := 3, grace := .grace 5 }, owner7] made).OwnersOrdered := by
  simp only [State.mgmtReady, State.OwnersOrdered]; decide +kernel

/-! ### Further states and operands, clause by clause -/

theorem witness_ClaimIsDecidedAgainstTheRoom_refusals :
    (made.linkReady 4 ∧ made.linkReady 3 ∧ made.mgmt.service = .serving ∧
      ({ claim7 with count := 65537 } : ClaimReq).count.toNat = 65537 ∧ (16777216 : U32).toNat = 16777216 ∧
      made.volume? (8 : U32).toNat = none ∧ made.volume? claim7.volume.toNat = some vol9 ∧ vol9.link ≠ 3 ∧ vol9.link = 4) ∧
    (let s := withClaims (List.replicate 512 { ticket := 1, owner := 7, granted := 1, kind := .server 4 9 }) made
     512 ≤ s.openClaims 4 ∧ s.linkReady 4) ∧
    (List.replicate 4096 claim7).length = 4096 ∧
    (∀ x ∈ [ServiceState.starting, .pausing, .paused, .saving, .loading],
      (inState x made).mgmt.service ≠ .serving ∧ (inState x made).linkReady 4) := by
  simp only [State.linkReady, List.length_replicate]; decide +kernel

theorem witness_TicketsAreFresh_between :
    let s := withClaims [{ ticket := 4294967295, owner := 7, granted := 1, kind := .restore },
      { ticket := 1, owner := 7, granted := 1, kind := .restore }] made
    let t : State := { s with quota := { s.quota with ticketCounter := 4294967295 } }
    t.ticket = 2 ∧ t.quota.ticketCounter = 4294967295 ∧ ¬t.quota.ticketCounter ≤ t.ticket ∧
    t.quota.ticketCounter ≤ 4294967295 ∧ 1 < t.ticket := by decide +kernel

theorem witness_MergeStepTakesTheNextEntryOrEnds_last :
    (∀ e ∈ [slotAt 5 7 6 .settled, freshAt 5 7],
      ∀ target ∈ [none, some 3],
      let s := merge7 target [e]
      let m : Merge := { epoch := 7, target := target, cursor := 0, freed := 4 }
      e ∈ s.unvisited 9 m ∧ (∀ x ∈ s.unvisited 9 m, x = e) ∧ s.entry? 9 e.block 7 = some e ∧
      (∀ x ∈ s.cat.snaps, x.volume = 9 → x.state = .retirePending → x.holds ≠ []) ∧ s.roster? 9 = none) ∧
    (merge7 (some 3) [slotAt 5 3 1 .settled, slotAt 5 7 6 .copying]).entry? 9 5 3 ≠ none := by decide +kernel

theorem witness_PoolRequestsAreAppliedWhole_quarantine :
    let s := { made with pres := { made.pres with quarantine := [6] } }
    s.mgmtReady ∧ configurable s.mgmt.service = true ∧ s.pres.quarantine ≠ [] ∧ (∀ r ∈ s.rest.active, r.state ≠ .stalled) ∧
    made.pres.quarantine = [] := by
  simp only [State.mgmtReady]; decide +kernel

theorem witness_PreserveTakesASlotForEachNewBlock_mixed :
    let s := withIndex [slotAt 5 3 6 .copying] live3
    let r : OwnerRecord := { owner7 with owner := 8, held := 0, pinned := 0 }
    (s.newBlocks 9 5 2 (.interval 3 none) = [6] ∧ s.copyingBlocks 9 5 2 (.interval 3 none) = [(5, 6)] ∧
      s.current 9 = .interval 3 none) ∧
    (s.owner? 8 = none ∧ s.quota.owners.length < 16384 ∧ s.quota.policy[(0 : Fin 24)] = some row0 ∧
      row0.matches 8 9 0 = true ∧ (∀ j : Fin 24, ¬j < 0) ∧
      r = { owner := 8, cls := row0.cls, hard := row0.hard, soft := row0.soft, held := 0, reserved := 0, pinned := 0,
            share := row0.share, overdraft := row0.overdraft, overTags := row0.overTags, grace := .within,
            origin := .row 0 }) := by decide +kernel

theorem witness_PreserveIsAnsweredAtOnce_new :
    (let s := withIndex [slotAt 5 3 6 .settled] live3
     s.newBlocks 9 5 2 (.interval 3 none) = [6] ∧ s.copyingBlocks 9 5 2 (.interval 3 none) = [] ∧ s.gateOf 9 5 2 = [] ∧
     524288 + 1 ≤ s.indexFree ∧ s.pres.indexLow = false) ∧
    (let s := { live3 with mover :=
       { live3.mover with liveReads := [{ volume := 9, block := 6, read := { pass := 5, consignment := 1, block := 6 }, tag := none }] } }
     s.gateOf 9 5 2 ≠ []) ∧
    ((withIndex [slotAt 5 3 6 .copying] live3).copyingBlocks 9 5 2 (.interval 3 none) ≠ []) ∧
    (let s := { live3 with quota := { live3.quota with policy := Vector.replicate 24 none } }
     s.owner? 8 = none ∧ (∀ i : Fin 24, s.quota.policy[i] = none) ∧ 1 ≤ (s.newBlocks 9 5 2 (.interval 3 none)).length ∧
     2 ≤ s.pres.free.length) ∧
    (live3.quota.policy[(0 : Fin 24)] = some row0 ∧ row0.matches 8 9 0 = true) := by decide +kernel

/-- The part DRAINING with nothing left to grant but a SERVICE operation. -/
def drainedOut : State :=
  { inState .pausing made with mover := { made.mover with mode := .draining, serviceQ := [serviceOp .read 0] } }

theorem witness_ArbiterGrantsInOrder_grants :
    (made.mover.freeTag? = some 0 ∧ made.mover.grant made.sched.windowOpen = none) ∧
    (∃ m, ({ made.mover with duplicationQ := [dupOp] } : Mover).grant false = some (dupOp, m)) ∧
    ((serviceOp .write 0).op = .write ∧ (serviceOp .write 0).client = .service ∧ dupOp.op ≠ .write) ∧
    (let g := State.grants 32 drainedOut
     g.mover.mode = .draining ∧ (∀ t, g.mover.tag t = none) ∧ g.mover.preservationQ = [] ∧ g.mover.restoreQs = [] ∧
       g.mover.duplicationQ = [] ∧ drainedOut.mgmt.service = .pausing) := by
  exact ⟨by decide +kernel, ⟨_, rfl⟩, by decide +kernel, by decide +kernel⟩

theorem witness_ArbiterGrantsInOrder_waits :
    (∃ x ∈ [({ id := 3, ops := [restoreOp] } : RestoreQueue)], x.ops ≠ []) ∧
    ¬(∃ x ∈ [({ id := 3, ops := [] } : RestoreQueue)], x.ops ≠ []) := by decide +kernel

/-- A preservation of restore 1 whose copy is in progress. -/
def pendR : PendingPreserve := { pend5 with who := .restore 1, counted := false }

theorem witness_CopyDoneSettlesAndAnswers_restore :
    let r : Restore := { restoring .copying with cursor := some 9, inProgress := [(5, .preserving none)] }
    let i := issued { copyOp with client := .preservation (some 1) } .copyWrite 4
    let s := onTag i (withIndex [slotAt 5 3 1 .copying] { active r with pres := { made.pres with pendings := [pendR] } })
    s.answersPhase 31 3 31 i ∧ i.phase = .copyWrite ∧ i.op.thenWrite = some (.pool, 1) ∧
    s.copyingEntry 1 = some (slotAt 5 3 1 .copying) ∧ s.offsite.pass = none ∧ (∀ x ∈ s.cat.snaps, x.state ≠ .opening) ∧
    s.pres.pendings = [pendR] ∧ pendR.who = .restore 1 ∧ pendR.faulted = [] ∧ (pendR.without 1).complete = true ∧
    s.rest.active = [r] ∧ r.id = 1 ∧ r.first + r.count ≤ 9 ∧ r.first ≤ 5 ∧ pendR.first = r.fenceFirst + (5 - r.first) := by
  simp only [State.answersPhase]; decide +kernel

theorem witness_FramesInPieces :
    (let f := frameBytes (serverCode (.claim claim7)) 5 (serverBody (.claim claim7))
     f = f.take 7 ++ f.drop 7 ∧ f.drop 7 ≠ [] ∧ ((made.begunOn 4 (f.take 7)).intake 4).begun = f.take 7 ∧
     (made.intake 4).begun = []) ∧
    (let f := frameBytes 51 5 []
     f = f.take 7 ++ f.drop 7 ∧ (made.begunMgmt (f.take 7)).mgmt.begun = f.take 7 ∧ made.mgmt.begun = [] ∧
     receive (f.take 7) = [] ∧ begunFrame (f.take 7) = f.take 7) ∧
    (frameBytes 51 5 []).drop 7 ≠ [] := by decide +kernel

theorem witness_RequestRestoreIsCheckedAndQueued_admission :
    let r := queuedRestore 1 restore58 .inPlace .urgent
    let s := withIndex [slotAt 5 3 1 .settled, freshAt 6 3] (withSnaps [snap 3 .live, snap 7 .live] made)
    (s.sweepPlan r = { w := 1, v := 1, k := 2 } ∧ s.indexFree ≥ 2 ∧
      s.pres.index.Pairwise (fun a b => entryBefore a b = true) ∧ (∀ p ∈ s.pres.pendings, p.inFence r = false)) ∧
    (s.admission r (s.sweepPlan r)).toBool = true ∧
    (({ s with pres := { s.pres with free := [] } } : State).admission r (s.sweepPlan r)).toBool = false ∧
    (let t := { s with pres := { s.pres with pendings := [pend5] } }
     (∃ p ∈ t.pres.pendings, p.inFence r = true) ∧ (t.admission r (t.sweepPlan r)).toBool = true) ∧
    (∀ b ∈ [5, 6, 7, 8], live3.lookup 9 b 3 = .live) ∧
    (let d := queuedRestore 1 { restore58 with mode := some (.side 9 105) } (.side 9 105) .ordinary
     r.mode = .inPlace ∧ d.mode = .side 9 105 ∧ s.owner? d.owner = some owner7 ∧ s.quota.claims.length < 4096 ∧
     (s.admission d { w := 80, v := 0, k := 0 }).toBool = true ∧ (s.admission d { w := 90, v := 0, k := 0 }).toBool = false ∧
     (s.admission d { w := 0, v := 0, k := 0 }).toBool = true) := by decide +kernel

/-- The copy of a slot to block 5 of volume 9, for restore 1. -/
def restoreCopy : StoreOp :=
  { op := .read, area := .pool, address := 6, length := 1, thenWrite := some (.volume 9, 5), client := .restore 1 5 }

theorem witness_StallExpiryEndsTheRestore_finish :
    (∀ blocks ∈ [[(5, BlockStep.writing)], [(5, .writing), (6, .writing)]],
      ∀ x ∈ [RestoreState.copying, .stalled, .ending],
      ∀ i ∈ [issued restoreCopy .copyWrite 0, issued restoreOp .first 0],
      let r : Restore := { restoring x with inProgress := blocks, cursor := some 9, outcome := some .cancelled }
      let s := onTag i (active r)
      s.mover.tag 31 = some i ∧ i.op.client = .restore 1 5 ∧ s.active? 1 = some r ∧ s.hasSnap r.fenceVolume .opening = false ∧
      i.sentSeq = 3 ∧ i.remaining = 0 ∧ s.rest.queue = [] ∧ r.first + r.count ≤ 9 ∧
      (s.snap? r.volume r.epoch).all (fun y => y.state = .live) = true) ∧
    ((issued restoreCopy .copyWrite 0).op.op = .read ∧ (issued restoreCopy .copyWrite 0).op.thenWrite ≠ none ∧
      (issued restoreOp .first 0).op.op = .free ∧ (issued restoreOp .first 0).op.thenWrite = none) := by decide +kernel

theorem witness_StallExpiryEndsTheRestore_walk :
    let r (m : RestoreMode) : Restore := { restoring .copying with mode := m, cursor := some 5 }
    let s (m : RestoreMode) (l : List Entry) := withIndex l (withSnaps [snap 3 .live, snap 7 .live] (active (r m)))
    (∀ m ∈ [RestoreMode.inPlace, .side 9 105],
      (s m []).active? 1 = some (r m) ∧ (r m).cursor = some 5 ∧ 5 < (r m).first + (r m).count ∧
      (r m).inProgress.length < 16 ∧ (s m []).hasSnap (r m).fenceVolume .opening = false ∧ (s m []).lookup 9 5 3 = .live ∧
      (s m [freshAt 6 3]).lookup 9 6 3 = .fresh 3 ∧ (s m [slotAt 6 3 1 .copying]).lookup 9 6 3 = .slot 1 3 7 .copying ∧
      (s m [slotAt 6 3 1 .settled]).lookup 9 6 3 = .slot 1 3 7 .settled ∧ (r m).ticket = none) ∧
    (let t := withSnaps [snap 3 .live, snap 7 .opening] (active (r .inPlace))
     t.hasSnap 9 .opening = true ∧ (restoring .ending).state ≠ .copying) := by decide +kernel

theorem witness_StallExpiryEndsTheRestore_start :
    let r : Restore := { restoring .copying with cursor := some 5 }
    let d : Restore := { r with mode := .side 9 105 }
    let s (l : List Entry) := withIndex l (withSnaps [snap 3 .live, snap 7 .live] (active r))
    (r ∈ (s []).rest.active ∧ (∀ a ∈ (s []).rest.active, a.id = r.id → a = r) ∧ (∀ x ∈ r.inProgress, x.1 ≠ 5) ∧ r.first ≤ 5) ∧
    ((s []).current 9 = .interval 7 none ∧ (withSnaps [] (s [])).current 9 = .noSnapshot) ∧
    (d ∈ (active d).rest.active ∧ d.fenceFirst + (5 - d.first) = 105 ∧ d.mode = .side 9 105) ∧
    ((s []).alreadyEntry 9 5 (.interval 7 none) = none ∧ 524288 < (s []).indexFree ∧ (s []).pres.free = 0 :: [1, 2, 3] ∧
      (s []).gateOf 9 5 1 = []) ∧
    (∀ e ∈ [slotAt 5 7 1 .settled, slotAt 5 7 1 .copying, freshAt 5 7],
      (s [e]).alreadyEntry 9 5 (.interval 7 none) = some e) ∧
    (({ s [] with mover := { (s []).mover with liveReads :=
      [{ volume := 9, block := 5, read := { pass := 5, consignment := 1, block := 5 }, tag := none }] } } : State).gateOf 9 5 1 ≠ []) ∧
    (indexed 8388608).indexFree = 0 := by
  refine ⟨by decide +kernel, by decide +kernel, by decide +kernel, by decide +kernel, by decide +kernel, by decide +kernel, ?_⟩
  rw [indexed_free]

/-- A live read of the pass, of block 5 for consignment 2. -/
def liveRead : StoreOp :=
  { op := .read, area := .volume 9, address := 5, length := 1, thenWrite := none,
    client := .duplication { pass := 5, consignment := 2, block := 5 } }

theorem witness_EngineActsByItsConditions_reads :
    let i := issued liveRead .first 0
    (∀ p ∈ [inHand [(5, .reading)], pass5 .sending, { pass5 .sending with number := 6 }],
      ∀ w ∈ [[], [{ sent1 1 (.rereading [(5, .reading)]) with number := 2 }]],
      let s := onTag i (passing p w)
      s.mover.tag 31 = some i ∧ i.phase = .first ∧ i.op.op = .read ∧ i.op.thenWrite = none ∧
      i.op.client = .duplication { pass := 5, consignment := 2, block := 5 } ∧ s.rest.active = [] ∧
      (∀ x ∈ s.cat.snaps, x.state ≠ .opening) ∧ (∀ v ∈ s.cat.volumes, v.waiting = []) ∧
      (∀ l : Link, (s.intake l).held = false) ∧ s.offsite.pass = some p ∧ i.sentSeq = 3 ∧ i.remaining = 0) ∧
    ((inHand [(5, .reading)]).number = 5 ∧ (inHand [(5, .reading)]).inHand = some { number := 2, records := [(5, .reading)] } ∧
      (passing (inHand [(5, .reading)]) []).noneReread ∧ (pass5 .sending).inHand = none) := by
  simp only [State.noneReread]; decide +kernel

/-- The image of the part after reset, as its save is to write it. -/
def imageOf (step : SaveStep) : State :=
  { State.reset with mgmt := { State.reset.mgmt with job :=
    (some (.save State.reset.counts 0 0 State.reset.counts.extent step 3 1 3 false)) } }

/-- The image's block 0. -/
def imageHead : List Byte := (imageOf .complete).serviceContent 0 1

/-- The image from block 1 on. -/
def imageTail : List Byte := (imageOf .body).serviceContent 1 5

/-- The header and the rest of an image pass their checks. -/
def imageGood (h : Option Header) (body : List Byte) : Bool :=
  match h with
  | some h =>
    match readImage h body with
    | .ok _ => true
    | .error _ => false
  | none => false

theorem witness_SavesAndLoadsBeginAndEnd_image :
    imageGood (readHeader imageHead) imageTail = true ∧ imageTail.length = 4096 * 5 ∧
    imageGood (readHeader imageHead) (List.replicate 20480 0) = false := by decide +kernel

theorem witness_SavesAndLoadsBeginAndEnd_lastRead :
    let job : ImageJob := .load (some 6) 6 1 1 false [(0, imageHead)]
    let i := issued { serviceOp .read 1 with length := 5 } .first 4
    let s := onTag i (inState .loading { made with mgmt := { made.mgmt with job := some job } })
    s.mgmt.job = some job ∧ 6 ≤ 6 ∧ s.mover.tag 31 = some i ∧ i.op.length = 5 ∧ i.op.address = 1 ∧
    [(0, imageHead)] = [(0, imageHead)] ++ [] ∧ [(0, imageHead)] ++ [(1, imageTail)] = (0, imageHead) :: [(1, imageTail)] :=
  ⟨rfl, Nat.le_refl _, rfl, rfl, rfl, rfl, rfl⟩

theorem witness_RestartLeavesNothingInFlight_busy :
    ∀ x ∈ [ServiceState.serving, .pausing, .paused, .saving],
      let s := inState x (withClaims [claim1] copying5)
      s.mgmtReady ∧ s.mgmt.service ≠ .starting ∧ s.mgmt.service ≠ .loading ∧ s.offsite.heldSealed = none ∧
      (s.cat.snaps.map Snapshot.name).Nodup ∧ s.rosterDistinct := by
  simp only [State.mgmtReady, State.rosterDistinct]; decide +kernel

theorem witness_RestartLeavesNothingInFlight_roster :
    let s := withSched .running [{ entry9 2 none .waiting with deferred := true, freed := true },
      { entry9 2 (some 7) .sending with volume := 8 }] (passing { pass5 .sending with volume := 8 } [])
    s.mgmtReady ∧ s.mgmt.service ≠ .starting ∧ s.mgmt.service ≠ .loading ∧ s.offsite.heldSealed = none ∧ s.rosterDistinct ∧
    (∀ e ∈ s.sched.roster, e.freed = true → e.deferred = true) ∧ s.passActive 8 = true := by
  simp only [State.mgmtReady, State.rosterDistinct]; decide +kernel

theorem witness_ClaimCreatesFromTheFirstMatchingRow_matches :
    (let row : PolicyRow := { row0 with pattern := 5, mask := 7, volume := some 9, tagCondition := some 3 }
     (∀ i, i < 24 → row.mask.getLsbD i = true → (13 : Nat).testBit i = row.pattern.getLsbD i) ∧
     ((2 : TagSet).getLsbD 1 = true ∧ (3 : TagSet).getLsbD 1 = true) ∧
     row.matches 13 9 2 = true ∧ row.matches 12 9 2 = false ∧ row.matches 13 8 2 = false ∧ row.matches 13 9 4 = false) ∧
    row0.matches 16777215 47 0 = true := by decide +kernel

/-- A roster entry for volume 9 whose deferred take is due, or still to come due. -/
def deferred9 (freed : Bool) : RosterEntry := { entry9 2 none .waiting with deferred := true, freed := freed }

theorem witness_TakeSnapshotOpensARecord_due :
    (∀ s ∈ [withSched .running [deferred9 true] copying5, withSched .running [deferred9 true] made],
      s.mgmt.queue = [] ∧ s.mgmt.replies.length < 4 ∧ operable s.mgmt.service = true ∧ labelOk (some []) = true ∧
      ((s.roster? 9).any fun r => r.deferred && r.freed) = true ∧ s.volume? 9 ≠ none ∧ s.hasSnap 9 .opening = false ∧
      (s.snapsOf 9).length < 24 ∧ s.cat.snaps.length < 768 ∧ s.nextEpoch 9 ≠ 0 ∧ s.snap? 9 (s.nextEpoch 9) = none) ∧
    (withSched .running [deferred9 true] copying5).isQuiet 9 = false ∧
    (withSched .running [deferred9 true] made).isQuiet 9 = true ∧
    (withSched .running [deferred9 true] made).nothingAwaits 9 20 ∧
    ((withSched .running [deferred9 false] made).roster? 9).any (fun r => r.deferred && r.freed) = false := by
  simp only [State.nothingAwaits, State.noPassAwaits]; decide +kernel

theorem witness_RetireSnapshotFollowsTheTable_awaited :
    ∀ x ∈ [snap 3 .live, heldSnap 3 .duplication],
      let s := withSched .running [entry9 2 (some 3) .waiting] (withSnaps [x] made)
      s.mgmt.queue = [] ∧ s.mgmt.replies.length < 4 ∧ operable s.mgmt.service = true ∧ s.volume? 9 = some vol9 ∧
      s.snap? 9 3 = some x ∧ x.state = .live ∧ s.hasSnap 9 .merging = false ∧
      ((s.roster? 9).any fun r => r.pass = .waiting ∧ r.target = some 3) = true := by decide +kernel

theorem witness_MergeStepTakesTheNextEntryOrEnds_start :
    (∀ l ∈ [[slotAt 5 7 6 .settled], []],
      let s := withSched .running [deferred9 false] (withSnaps [snap 3 .retirePending, snap 7 .merging] (merge7 none l))
      s.volume? 9 = some (merging 7 none) ∧ s.roster? 9 = some (deferred9 false) ∧ (deferred9 false).freed = false) ∧
    ((merge7 none []).unvisited 9 { epoch := 7, target := none, cursor := 0, freed := 4 } = []) ∧
    (let s := withSnaps [snap 3 .retirePending, snap 5 .retirePending, heldSnap 2 .duplication] made
     s.volume? 9 = some vol9 ∧ s.hasSnap 9 .merging = false ∧ snap 3 .retirePending ∈ s.cat.snaps ∧
     (snap 3 .retirePending).holds = [] ∧
     (∀ y ∈ s.cat.snaps, y.state = .retirePending → y = snap 3 .retirePending ∨ 3 < y.epoch) ∧
     s.snap? 9 3 = some (snap 3 .retirePending) ∧ s.noPassAwaits 9 3) ∧
    (∀ x ∈ live3.cat.snaps, x.state ≠ .retirePending) ∧ (merge7 none []).hasSnap 9 .merging = true := by
  simp only [State.noPassAwaits]; decide +kernel

/-- The snapshots of 24 epochs of volume 9. -/
def all24 (f : Nat → Snapshot) : List Snapshot := (List.range 24).map fun i => f (i + 1)

theorem witness_MergeStepTakesTheNextEntryOrEnds_due :
    (∀ s ∈ [withSnaps [snap 3 .opening] made, withSnaps (all24 (snap · .live)) made,
        { made with cat := { made.cat with nextEpoch := Vector.replicate 48 0 } }, copying5, made],
      let t := withSched .running [deferred9 true] s
      t.mgmt.service = .serving ∧ t.roster? 9 = some (deferred9 true) ∧ (∀ d ∈ t.sched.roster, d = deferred9 true)) ∧
    (withSnaps [snap 3 .opening] made).hasSnap 9 .opening = true ∧
    (24 ≤ ((withSnaps (all24 (snap · .live)) made).snapsOf 9).length ∧
      (withSnaps (all24 (snap · .live)) made).hasSnap 9 .opening = false) ∧
    (∀ s ∈ [copying5, made], s.hasSnap 9 .opening = false ∧ (s.snapsOf 9).length < 24 ∧ s.cat.snaps.length < 768 ∧
      s.nextEpoch 9 = 20 ∧ s.snap? 9 20 = none ∧ (∀ a ∈ s.rest.active, a.fenceVolume ≠ 9) ∧ s.volume? 9 = some vol9) ∧
    copying5.isQuiet 9 = false ∧ made.isQuiet 9 = true := by decide +kernel

theorem indexed_new (n i : Nat) : (indexed n).alreadyEntry 9 (5 + i) (.interval 3 none) = none := by
  simp [State.alreadyEntry, State.entry?, indexed, withIndex, slotAt]

theorem indexed_fence (n : Nat) : (indexed n).fencedRange 9 5 2 = false := rfl

/-- With 524,289 entries free, the second of two new entries brings the free count below 524,288; with 524,290, none does. -/
theorem witness_PreserveTakesASlotForEachNewBlock_low :
    (let s := indexed (8388608 - 524289)
     s.indexFree = 524289 ∧ s.indexFree < 524288 + 2 ∧ 2 ≤ s.indexFree ∧ s.pres.indexLow = false ∧
     s.current 9 = .interval 3 none ∧ s.fencedRange 9 5 2 = false ∧
     (∀ i < 2, s.alreadyEntry 9 (5 + i) (.interval 3 none) = none)) ∧
    ¬(indexed (8388608 - 524290)).indexFree < 524288 + 2 ∧ (indexed (8388608 - 524288)).indexFree < 524288 + 1 := by
  refine ⟨⟨?_, ?_, ?_, rfl, rfl, rfl, fun i _ => indexed_new _ i⟩, ?_, ?_⟩ <;> rw [indexed_free] <;> decide

/-- A waiting PRESERVE of blocks 5 and 6. -/
def waits4 : Waiting := { link := 4, seq := 3, req := keep56 }

/-- Volume 9 with `n` requests waiting. -/
def waiting9 (n : Nat) : Volume := { vol9 with waiting := List.replicate n waits4 }

theorem witness_PreserveWaits_afterLive :
    (∀ n ∈ [1, 63, 64],
      let s := withVol (waiting9 n) live3
      s.current 9 = .interval 3 none ∧ (waiting9 n).waiting ≠ [] ∧ s.volume? 9 = some (waiting9 n) ∧ (waiting9 n).link = 4 ∧
      s.copyingPreserves 4 < 4) ∧
    (∀ n ∈ [0, 1, 2],
      let s := withVol (waiting9 n) (withSnaps [snap 3 .opening] made)
      s.isQuiet 9 = true ∧ (s.snapsOf 9).find? (fun x => x.state = .opening) = some (snap 3 .opening) ∧
      s.snap? 9 3 = some (snap 3 .opening) ∧ (∀ y ∈ s.cat.snaps, y.state = .opening → y = snap 3 .opening) ∧
      s.volume? 9 = some (waiting9 n) ∧ (∀ r ∈ s.rest.active, r.fenceVolume ≠ 9) ∧ s.noPassAwaits 9 3 ∧
      s.copyingPreserves 4 < 4 ∧
      s.intake 4 = { queue := [], held := false, mark := .none, begun := (s.intake 4).begun }) ∧
    waiting9 1 = { vol9 with waiting := [waits4] } ∧
    (let s := withVol (waiting9 2) (withSnaps [snap 3 .opening]
       { made with pres := { made.pres with pendings := List.replicate 4 { pend5 with volume := 8 } } })
     s.isQuiet 9 = true ∧ 4 ≤ s.copyingPreserves 4) := by
  simp only [State.noPassAwaits]; decide +kernel

/-- Volumes 9 and 10 of link 4, each with a request waiting. -/
def two4 : State :=
  { live3 with cat := { live3.cat with volumes := [waiting9 1, { waiting9 1 with volume := 10 }] } }

/-- A link whose head is held. -/
def holding (s : State) : State := s.onLink 4 fun i => { i with queue := [(3, .preserve keep56)], held := true }

theorem witness_PreserveWaits_linkFall :
    ((withVol (waiting9 2) live3).handable 9 = some waits4 ∧ live3.handable 9 = none ∧
      (withVol (waiting9 2) (inState .paused live3)).handable 9 = none ∧
      (withVol (waiting9 2) (withSnaps [snap 3 .opening] made)).handable 9 = none) ∧
    (∀ s ∈ [live3, withVol (waiting9 1) live3, two4],
      s.mgmt.service = .serving ∧ s.copyingPreserves 4 < 4 ∧ (s.cat.volumes.map (·.volume)).Nodup ∧ (s.intake 4).held = false ∧
      ((holding s).intake 4).held = true) ∧
    (∀ v < 48, live3.handable v = none ∧ ((withVol (waiting9 1) live3).handable v ≠ none → v = 9)) ∧
    (two4.handable 9 = some waits4 ∧ two4.handable 10 = some waits4 ∧ waits4.link = 4) ∧
    (holding two4).handable 9 = some waits4 ∧ (holding live3).handable 9 = none := by decide +kernel

theorem witness_CancelAndReadRestoreFollowTheTables_unheld :
    let old : Snapshot := { heldSnap 3 (.restore 1) with state := .retirePending }
    (∀ r ∈ [restoring .planning, restoring .fencing, stalled 3 []],
      let s := withSnaps [old] (active r)
      s.active? 1 = some r ∧ r.ticket = none ∧ s.rest.queue = [] ∧
      ((s.snap? r.volume r.epoch).any fun x => x.state = .retirePending ∧ x.holds ≠ [] ∧ ∀ h ∈ x.holds, h = .restore 1) = true) ∧
    (let s := withSnaps [old] { made with rest := { made.rest with queue := [restoring .queued] } }
     (s.rest.queue.find? fun d => d.id = 1) = some (restoring .queued) ∧ s.snap? 9 3 = some old ∧ s.volume? 9 = some vol9) := by
  decide +kernel

/-- The part one minute before the snapshot point, which is minute 60, with a roster of two, its window opening at a minute. -/
def atPoint (window : Nat) (s : State) : State :=
  advancing 59 .repeating [entry9 2 none .skipped, { entry9 0 none .done with volume := 8 }]
    { s with
      cat := { s.cat with volumes := [{ vol9 with volume := 8 }, vol9] }
      sched := { s.sched with live := { s.sched.live with window := window } } }

theorem atPoint_bounded : ∀ w ∈ [60, 90], ∀ s ∈ [copying5, made], (atPoint w s).Bounded := by
  intro w hw s hs
  simp only [List.mem_cons, List.not_mem_nil, or_false] at hw hs
  obtain rfl | rfl := hw <;> obtain rfl | rfl := hs <;> constructor
  all_goals first
    | decide +kernel
    | exact fun v => Nat.le_trans (List.length_filter_le _ _) (by decide +kernel)
    | exact ⟨by unfold State.rosterDistinct; decide +kernel, by decide +kernel⟩

theorem witness_CycleAdvanceTakesItsPoints_roster :
    (∀ w ∈ [60, 90], ∀ s ∈ [copying5, made],
      let s := atPoint w s
      s.Bounded ∧ 0 < s.sched.advancesDue ∧ s.mgmt.service ≠ .loading ∧ s.sched.counter + 1 = s.sched.live.point ∧
      s.sched.counter + 1 < s.sched.live.cycle ∧ s.sched.counter + 1 ≠ s.sched.live.window + s.sched.live.length ∧
      (∀ e ∈ s.sched.roster, s.unawaited e.volume) ∧ s.sched.roster.length = 2) ∧
    (copying5.isQuiet 9 = false ∧ made.isQuiet 9 = true) ∧
    (∀ m ∈ [RunMode.single, .repeating],
      let s := advancing 1439 m [entry9 2 none .waiting]
        { made with sched := { made.sched with live := { made.sched.live with window := 1140 } } }
      s.sched.live.window + s.sched.live.length = s.sched.live.cycle ∧ s.sched.live.cycle ≤ s.sched.counter + 1 ∧
      s.rosterDistinct ∧ 0 < s.sched.live.point ∧ s.sched.nextWritten = false) := by
  refine ⟨fun w hw s hs => ⟨atPoint_bounded w hw s hs, ?_⟩, by decide +kernel, ?_⟩
  · revert w s; simp only [State.unawaited]; decide +kernel
  · simp only [State.rosterDistinct]; decide +kernel

/-- The part one minute before a boundary from which the snapshot point lies at minute 0, the window closing at a minute. -/
def atBoundary (close : Nat) (window : Nat) : State :=
  let s := atPoint 90 made
  { s with sched := { s.sched with counter := 1439, live := { s.sched.live with length := close - 90 }, nextWritten := true,
                                   next := { s.sched.live with point := 0, window := window } } }

theorem witness_CycleAdvanceTakesItsPoints_boundary : ∀ close ∈ [390, 1440], ∀ w ∈ [0, 90],
    let s := atBoundary close w
    s.Bounded ∧ 0 < s.sched.advancesDue ∧ s.sched.state = .running ∧ s.sched.mode = .repeating ∧ s.mgmt.service ≠ .loading ∧
    s.sched.live.cycle ≤ s.sched.counter + 1 ∧ s.sched.live.window + s.sched.live.length = close ∧ s.sched.live.cycle = 1440 ∧
    s.sched.nextWritten = true ∧ s.sched.next.point = 0 ∧ s.sched.next.window = w ∧
    0 < s.sched.next.window + s.sched.next.length ∧ (∀ e ∈ s.sched.roster, s.unawaited e.volume) := by
  intro c hc w hw
  refine ⟨?_, by revert c w; simp only [State.unawaited]; decide +kernel⟩
  have b := atPoint_bounded 90 (by decide) made (by decide)
  exact { b with }

theorem witness_CycleAdvanceTakesItsPoints_visits :
    (∀ l ∈ [all24 (snap · .live), snap 1 .merging :: (all24 (snap · .live)).drop 1, snap 1 .retirePending :: (all24 (snap · .live)).drop 1,
        all24 (nightly · .live)],
      let t := withSnaps l made
      24 ≤ (t.snapsOf 9).length ∧ t.hasSnap 9 .opening = false ∧ t.cat.snaps.length < 768 ∧ t.nextEpoch 9 ≠ 0 ∧
      t.offsite.pass = none ∧ t.mgmt.service = .serving) ∧
    (∀ x ∈ all24 (snap · .live), x.kind ≠ .nightly ∧ x.state ≠ .merging ∧ x.state ≠ .retirePending) ∧
    (nightly 1 .live ∈ all24 (nightly · .live) ∧ (nightly 1 .live).holds = [] ∧
      ∀ y ∈ all24 (nightly · .live), y.state = .live ∧ (y = nightly 1 .live ∨ 1 < y.epoch)) ∧
    ((withSnaps [snap 3 .opening] made).hasSnap 9 .opening = true ∧ (made.snapsOf 9).length < 24 ∧
      made.snap? 9 (made.nextEpoch 9) = none) ∧
    (passing (pass5 .sending) []).offsite.pass = some (pass5 .sending) ∧ (inState .paused made).mgmt.service ≠ .serving := by
  decide +kernel

theorem witness_EngineActsByItsConditions_acts :
    made.dupAct.isNone = true ∧ (passing (pass5 .sending) []).dupAct.isSome = true := by decide +kernel

theorem made_bounded : ∀ s ∈ [live3, holding made], s.Bounded := by
  intro s hs
  simp only [List.mem_cons, List.not_mem_nil, or_false] at hs
  obtain rfl | rfl := hs <;> constructor
  all_goals first
    | decide +kernel
    | exact fun v => Nat.le_trans (List.length_filter_le _ _) (by decide +kernel)
    | exact ⟨by unfold State.rosterDistinct; decide +kernel, by decide +kernel⟩

theorem witness_ServiceOpensAndPauses_bounded :
    (∀ x ∈ [ServiceState.starting, .paused], (inState x live3).Bounded ∧ (inState x live3).mgmtReady) ∧
    (holding made).Bounded ∧ (holding made).mgmtReady ∧ (holding made).mgmt.service = .serving ∧
    ((holding made).intake 4).queue ≠ [] := by
  refine ⟨fun x _ => ⟨{ made_bounded live3 (by simp) with }, rfl, (by decide +kernel : live3.mgmt.replies.length < 4)⟩, made_bounded (holding made) (by simp), ?_⟩
  simp only [State.mgmtReady]; decide +kernel

theorem witness_ServiceOpensAndPauses_restart :
    (∀ x ∈ [ServiceState.serving, .pausing, .paused, .saving, .starting, .loading],
      (inState x made).mgmtReady ∧ (inState x made).mgmt.service = x) := by
  simp only [State.mgmtReady]; decide +kernel

theorem witness_RestartLeavesNothingInFlight_sends :
    let s := withVol (waiting9 2) (passing (pass5 .sending) [sent1 1 .due])
    let t := (withIndex [slotAt 5 7 1 .copying] { s with pres := { s.pres with pendings := [pend5], free := [0, 2, 3] } }).onLink 4
      fun i => { i with queue := [(8, .preserve keep56)], held := true }
    t.mgmtReady ∧ t.mgmt.service ≠ .starting ∧ t.mgmt.service ≠ .loading ∧ (t.intake 4).queue ≠ [] ∧
    (∃ v ∈ t.cat.volumes, v.waiting ≠ []) ∧ (∃ p ∈ t.pres.pendings, p.who = .link 4 2) ∧
    t.offsite.pass = some (pass5 .sending) ∧ t.offsite.link = .up ∧ t.offsite.heldSealed = none := by
  simp only [State.mgmtReady]; decide +kernel

/-! ### A deferred take and the waiting list, step by step -/

/-- A manual TAKE SNAPSHOT before a due deferred take takes the freed place: the night is skipped with FULL (R133). -/
theorem test_take_before_a_due_take :
    let s := withSched .running [deferred9 true] made
    ((after (.takeSnapshot 1 9 none) s).roster? 9).map (fun r => (r.pass, r.deferred, r.freed)) = some (.skipped, false, false) ∧
    notices (.takeSnapshot 1 9 none) s = [.snapshotSkipped 9 .full 0, .snapshotLive 9 20 .manual] := by decide +kernel

/-- A deferred take that is due is made at the next step: the entry waits for its NIGHTLY snapshot, LIVE at once (R133). -/
theorem test_due_take_is_made :
    let s := withSched .running [deferred9 true] made
    ((after (.mergeStep 9) s).roster? 9).map (fun r => (r.pass, r.target, r.deferred)) = some (.waiting, some 20, false) ∧
    notices (.mergeStep 9) s = [.snapshotLive 9 20 .nightly] := by decide +kernel

theorem witness_EngineActsByItsConditions_pausing :
    (let s := inState .pausing (withIndex [slotAt 5 7 1 .settled] (passing (inHand [(5, .todo), (6, .todo)]) []))
     (s.feedAct (inHand [(5, .todo), (6, .todo)])).isSome = true ∧ ¬s.shipping) ∧
    (let s := inState .pausing (withIndex [slotAt 5 7 1 .copying] (passing (inHand [(5, .todo)]) []))
     s.feedAct (inHand [(5, .todo)]) = none ∧ s.noneReread ∧ (s.feedBlocks (inHand [(5, .todo)]) 2 [(5, .todo)]).1 = [(5, .todo)]) ∧
    (let c := sent1 1 (.rereading [(5, .todo), (6, .todo)])
     let s := inState .pausing (passing (pass5 .sending) [c])
     (s.offsite.window.find? fun c => c.isRereading) = some c ∧ (s.feedAct (pass5 .sending)).isSome = true) ∧
    ¬allIn [(5, .todo)] := by
  refine ⟨?_, ?_, ?_, ?_⟩
  case refine_4 => intro h; have := h _ (List.mem_singleton.mpr rfl); simp at this
  all_goals simp only [State.noneReread, State.shipping]; decide +kernel

/-! ### Evaluations within one event, lookups in a drain and reads left over -/

/-- A copy of owner 7 faults and its grace ends; the PRESERVE that its link's intake held is taken only then, and starts the
grace again: two evaluations in one event (R23, R77). -/
theorem test_grace_before_a_held_preserve :
    let o : OwnerRecord := { owner7 with held := 47, pinned := 4, share := 16, grace := .grace 90 }
    let s := withOwners [o] (onTag (issued copyOp .copyWrite 4) copying5)
    let s := { s with pres := { s.pres with pendings := pend5 :: List.replicate 3 { pend5 with own := [(9, 2)] } } }
    let s := s.onLink 4 fun i => { i with queue := [(8, .preserve keep56)], held := true }
    (notices (.storeFault 31 3 .media) s).drop 1 =
      [.graceEnded 7 50 50, .graceStarted 7 52 60, .poolLow 1 2] ∧
    (after (.storeFault 31 3 .media) s).copyingPreserves 4 = 4 := by decide +kernel

/-- In PAUSING the engine looks up the block it waited at as the copy settles, and the drain takes its read (R97, R143). -/
theorem test_lookup_goes_on_in_pausing :
    let s := inState .pausing (withIndex [slotAt 5 7 1 .copying] (passing (inHand [(5, .todo)]) []))
    let s := onTag (issued copyOp .copyWrite 4) { s with
      mover := { s.mover with mode := .draining }, pres := { s.pres with pendings := [pend5] } }
    let t := after (.storeDone 31 3) s
    (t.offsite.pass.bind (·.inHand)).map (·.records) = some [(5, .reading)] ∧ t.duplicationReads.length = 1 ∧
    t.mgmt.service = .pausing := by decide +kernel

/-- A read whose consignment has been committed times out: the pass is abandoned with STORE_FAULT, and ends (R144, R153). -/
theorem test_fault_of_a_committed_consignment :
    let s := onTag (issued liveRead .first 0) (passing (pass5 .sending) [])
    (after (.storeTimeout 31) s).offsite.pass = none ∧
    (notices (.storeTimeout 31) s).drop 1 = [.passEnded 9 (some .storeFault) 1] := by decide +kernel

/-- A merge of volume 9 at its end, with a deferred take to come. -/
def ending9 : State := withSched .running [deferred9 false] (merge7 (some 3) [])

/-- That end with four replies waiting, a TAKE SNAPSHOT of the volume waiting, and the management link's sender free next. -/
def ending9Full (v : U32) : State :=
  { ending9 with
    mgmt := { ending9.mgmt with replies := (replied 4 []).mgmt.replies, queue := [(1, .takeSnapshot v none)] }
    pending := [.mgmtSenderFree] }

theorem witness_MergeStepTakesTheNextEntryOrEnds_atHand :
    (∀ s ∈ [ending9, { ending9 with pending := [.takeSnapshot 1 9 none] }, { ending9 with pending := [.takeSnapshot 1 3 none] },
        ending9Full 9, { ending9Full 9 with pending := [] }],
      s.mgmt.service = .serving ∧ s.volume? 9 = some (merging 7 (some 3)) ∧ s.roster? 9 = some (deferred9 false) ∧
      s.unvisited 9 { epoch := 7, target := some 3, cursor := 0, freed := 4 } = []) ∧
    ((9 : U32).toNat = 9 ∧ (3 : U32).toNat ≠ 9 ∧ ending9.pending = [] ∧ ending9.mgmtReady) ∧
    ((ending9Full 9).mgmt.replies.length = 4 ∧ (ending9Full 9).mgmt.queue = [(1, .takeSnapshot 9 none)]) ∧
    (((receive (frameBytes 24 1 (List.replicate 32 0))).findSome? goodRequest).any fun r => match r with
      | .takeSnapshot _ _ => true
      | _ => false) = true ∧
    (∀ s ∈ [withSnaps [snap 3 .opening] made, withSnaps (all24 (snap · .live)) made, made],
      let t := withSched .running [deferred9 true] s
      t.mgmtReady ∧ t.roster? 9 = some (deferred9 true) ∧ t.volume? 9 ≠ none) ∧
    labelOk (some [7]) = false := by
  refine ⟨by decide +kernel, by simp only [State.mgmtReady]; decide +kernel, by decide +kernel, by decide +kernel, ?_, by decide⟩
  simp only [State.mgmtReady]; decide +kernel

/-- A TAKE SNAPSHOT is at hand only where the interpreter takes it as the next command comes: not one that waits behind a full
reply list, nor one of another volume (R133, R173). -/
theorem test_take_at_hand :
    (ending9Full 9).takeAtHand 9 = true ∧ ({ ending9 with pending := [.takeSnapshot 1 9 none] } : State).takeAtHand 9 = true ∧
    ({ ending9Full 9 with pending := [.secondsTick] } : State).takeAtHand 9 = false ∧ (ending9Full 3).takeAtHand 9 = false ∧
    ({ ending9Full 9 with pending := [.takeSnapshot 1 9 none] } : State).takeAtHand 9 = false := by decide +kernel

/-- With no TAKE SNAPSHOT at hand a deferred take is made as the record becomes GONE, in the same event (R133). -/
theorem test_deferred_take_is_made_at_the_end :
    ((after (.mergeStep 9) ending9).roster? 9).map (fun r => (r.target, r.deferred)) = some (some 20, false) ∧
    notices (.mergeStep 9) ending9 = [.snapshotGone 9 7 4, .snapshotLive 9 20 .nightly] := by decide +kernel

/-- A TAKE SNAPSHOT refused for its label leaves the freed place to the deferred take that is due (R133). -/
theorem test_due_take_after_a_refused_take :
    let s := withSched .running [deferred9 true] made
    (after (.takeSnapshot 1 9 (some [7])) s).mgmt.replies.map (·.status) = [.badField] ∧
    notices (.takeSnapshot 1 9 (some [7])) s = [.snapshotLive 9 20 .nightly] := by decide +kernel

end Sys2Proof.Tests
end

/-! PROOFS. The quota unit's requests: what each makes of the state it finds, case by case (R8, R14, R15), and the
obligations about them. -/

namespace Sys2Proof.Machine

/-! ### A management request's row (R173) -/

/-- The row of a request that only changes the state comes out, at a ready interpreter, as that change leaves it. -/
theorem exec_of_take {c : Instr} {s t : State} {seq : U16} {r : MgmtRequest} {f : State → State}
    (arm : exec c s = .next (s.request seq r)) (ready : s.mgmtReady) (take : ∀ w, takeMgmt seq r w = w.on f)
    (result : f s.heard = t) (keeps : t.mgmt.queue = s.mgmt.queue) : exec c s = .next t := by
  rw [arm, request_result ready take result keeps]

/-! ### Operands -/

theorem ownerNumberOk_iff {n : U32} : ownerNumberOk n = true ↔ n.toNat ≤ 16777215 :=
  decide_eq_true_iff

theorem State.restoreNamesOwner_iff {s : State} {n : Nat} :
    s.restoreNamesOwner n = true ↔ ∃ x ∈ s.rest.queue ++ s.rest.active, x.owner = n := by
  simp only [State.restoreNamesOwner, List.any_eq_true, beq_iff_eq]

/-! ### The owner table with one record changed or removed -/

/-- The owners other than `n` (R14). -/
theorem ownersWith_remove (l : List OwnerRecord) (n : Nat) : ownersWith l (l.filter fun r => r.owner != n) n none :=
  tableWith_filter OwnerRecord.owner l n

@[simp] theorem State.raiseIf_graceOf (b : Option NoticeBody) (s : State) (n : Nat) :
    (s.raiseIf b).graceOf n = s.graceOf n := by
  cases b <;> rfl

/-- The grace state that an owner table gives the owner whose record it is said to hold. -/
theorem State.graceOf_ownersWith {before owners : List OwnerRecord} {n : Nat} {r : OwnerRecord} (s : State)
    (h : ownersWith before owners n (some r)) :
    ({ s with quota := { s.quota with owners := owners } } : State).graceOf n = r.grace :=
  State.graceOf_some h.1

/-! ### REMOVE OWNER (R14) -/

section RemoveOwner

variable {s : State} {n : U32} {seq : U16} (service : configurable s.mgmt.service = true) (inRange : n.toNat ≤ 16777215)
include service inRange

theorem takeRemoveOwner_unknown (h : s.owner? n.toNat = none) :
    takeRemoveOwner seq n s = s.reply seq 18 .unknownOwner 0 .empty := by
  simp only [takeRemoveOwner, service, ownerNumberOk_iff.mpr inRange, h, State.refuse, Bool.not_true,
    Bool.false_eq_true, if_false]

theorem takeRemoveOwner_inUse {r : OwnerRecord} (h : s.owner? n.toNat = some r)
    (used : r.held ≠ 0 ∨ r.reserved ≠ 0 ∨ r.pinned ≠ 0 ∨ s.restoreNamesOwner n.toNat = true) :
    takeRemoveOwner seq n s = s.reply seq 18 .inUse 0 .empty := by
  simp only [takeRemoveOwner, service, ownerNumberOk_iff.mpr inRange, h, if_pos used, State.refuse, Bool.not_true,
    Bool.false_eq_true, if_false]

theorem takeRemoveOwner_unused {r : OwnerRecord} (h : s.owner? n.toNat = some r)
    (unused : ¬(r.held ≠ 0 ∨ r.reserved ≠ 0 ∨ r.pinned ≠ 0 ∨ s.restoreNamesOwner n.toNat = true)) :
    takeRemoveOwner seq n s =
      (s.onQuota fun q =>
        { q with owners := q.owners.filter fun r => r.owner != n.toNat }).reply seq 18 .ok 0 .empty := by
  simp only [takeRemoveOwner, service, ownerNumberOk_iff.mpr inRange, h, if_neg unused, Bool.not_true,
    Bool.false_eq_true, if_false]

end RemoveOwner

/-! ### SET USAGE (R15) -/

section SetUsage

variable {s : State} {n : U32} {seq : U16} {held : U32} (service : configurable s.mgmt.service = true)
  (inRange : n.toNat ≤ 16777215)
include service inRange

theorem takeSetUsage_unknown (h : s.owner? n.toNat = none) :
    takeSetUsage seq n held s = s.reply seq 19 .unknownOwner 0 .empty := by
  simp only [takeSetUsage, service, ownerNumberOk_iff.mpr inRange, h, State.refuse, Bool.not_true,
    Bool.false_eq_true, if_false]

theorem takeSetUsage_known {r : OwnerRecord} (h : s.owner? n.toNat = some r) :
    let evaluated := (s.onOwner n.toNat fun r => { r with held := held.toNat }).evalGrace n.toNat
    takeSetUsage seq n held s =
      evaluated.reply seq 19 .ok 0 (.usage r.held held.toNat (evaluated.graceOf n.toNat)) := by
  simp only [takeSetUsage, service, ownerNumberOk_iff.mpr inRange, h, Bool.not_true,
    Bool.false_eq_true, if_false]

end SetUsage

/-! ### ERASE POLICY (R8) -/

/-- A policy row within the table (R3). -/
theorem State.policyRow_of_lt (s : State) {i : Nat} (h : i < 24) : s.policyRow i = s.quota.policy[i] := by
  simp only [State.policyRow, Vector.getElem?_eq_getElem h, Option.join_some]

theorem State.setPolicyRow_of_lt (s : State) {i : Nat} (h : i < 24) (row : Option PolicyRow) :
    s.setPolicyRow i row = { s with quota := { s.quota with policy := s.quota.policy.set i row } } := by
  have inBounds : s.quota.policy.setIfInBounds i row = s.quota.policy.set i row :=
    Vector.toArray_inj.mp (dif_pos (by rwa [s.quota.policy.size_toArray]))
  simp only [State.setPolicyRow, State.onQuota, inBounds]

/-- The state with a row emptied and the origin of each owner from it WRITTEN (R8). -/
def State.rowErased (s : State) (i : Nat) (h : i < 24) : State :=
  { s with quota :=
    { s.quota with
      policy := s.quota.policy.set i none
      owners := s.quota.owners.map fun r => if r.origin = .row i then { r with origin := .written } else r } }

theorem State.setPolicyRow_writtenOrigins (s : State) {i : Nat} (h : i < 24) :
    ((s.setPolicyRow i none).onQuota fun q =>
      { q with owners := updateWhere (fun r => r.origin == .row i) (fun r => { r with origin := .written }) q.owners })
      = s.rowErased i h := by
  simp only [s.setPolicyRow_of_lt h, State.onQuota, State.rowErased, updateWhere, beq_iff_eq]

section ErasePolicy

variable {s : State} {i : U32} {seq : U16} (service : configurable s.mgmt.service = true)
include service

theorem takeErasePolicy_outside (h : 23 < i.toNat) :
    takeErasePolicy seq i s = s.reply seq 21 .badField 0 .empty := by
  simp only [takeErasePolicy, service, if_pos h, State.refuse, Bool.not_true, Bool.false_eq_true, if_false]

theorem takeErasePolicy_empty (h : i.toNat < 24) (row : s.policyRow i.toNat = none) :
    takeErasePolicy seq i s = s.reply seq 21 .ok 0 (.number 0) := by
  simp only [takeErasePolicy, service, if_neg (Nat.not_lt.mpr (Nat.le_of_lt_succ h)), row, Bool.not_true,
    Bool.false_eq_true, if_false]

theorem takeErasePolicy_filled (h : i.toNat < 24) (row : s.policyRow i.toNat ≠ none) :
    takeErasePolicy seq i s = (s.rowErased i.toNat h).reply seq 21 .ok 0
      (.number (s.quota.owners.countP fun r => r.origin = .row i.toNat)) := by
  obtain ⟨p, hp⟩ := Option.ne_none_iff_exists'.mp row
  have taken : takeErasePolicy seq i s = (s.rowErased i.toNat h).reply seq 21 .ok 0
      (.number (s.quota.owners.countP fun r => r.origin == .row i.toNat)) := by
    simp only [takeErasePolicy, service, if_neg (Nat.not_lt.mpr (Nat.le_of_lt_succ h)), hp,
      s.setPolicyRow_writtenOrigins h, Bool.not_true, Bool.false_eq_true, if_false]
  exact taken

end ErasePolicy

/-! ### The obligations -/

/-- Settles O3: no record, a record that nothing uses, and a record in use, each by its answer of `takeRemoveOwner`. -/
theorem removeOwnerNeedsAnUnusedRecord : Obligations.RemoveOwnerNeedsAnUnusedRecord := by
  intro s seq n ready service inRange
  have service : configurable s.heard.mgmt.service = true := service
  have taken {t : State} := exec_of_take (c := .removeOwner seq n) (t := t) rfl ready fun _ => rfl
  refine ⟨fun unknown => ?_, fun r known => ⟨fun held reserved pinned unnamed => ?_, fun used => ?_⟩⟩
  · exact taken (takeRemoveOwner_unknown service inRange unknown) rfl
  · have unused : ¬(r.held ≠ 0 ∨ r.reserved ≠ 0 ∨ r.pinned ≠ 0 ∨ s.restoreNamesOwner n.toNat = true) := by
      rintro (used | used | used | named)
      · exact used held
      · exact used reserved
      · exact used pinned
      · exact unnamed (State.restoreNamesOwner_iff.mp named)
    exact ⟨_, taken (takeRemoveOwner_unused service inRange known unused) rfl, ownersWith_remove s.quota.owners n.toNat⟩
  · rw [← State.restoreNamesOwner_iff] at used
    exact taken (takeRemoveOwner_inUse service inRange known used) rfl

/-- Settles O4: with a record, the change of held and its evaluation are one change of the table (`onOwner_evalGrace`),
and the reply reads the grace state from the table that this leaves. -/
theorem setUsageSetsHeld : Obligations.SetUsageSetsHeld := by
  intro s seq n held ready service inRange
  have service : configurable s.heard.mgmt.service = true := service
  have taken {t : State} := exec_of_take (c := .setUsage seq n held) (t := t) rfl ready fun _ => rfl
  refine ⟨fun unknown => ?_, fun r known => ?_⟩
  · exact taken (takeSetUsage_unknown service inRange unknown) rfl
  · obtain ⟨owners, evaluated, table, -⟩ :=
      s.heard.onOwner_evalGrace n.toNat (fun r => { r with held := held.toNat }) r (fun _ => rfl) (fun _ => rfl) known
    refine ⟨owners, taken ?_ (State.raiseIf_queue _ _), table⟩
    rw [takeSetUsage_known service inRange known, evaluated, State.raiseIf_graceOf, State.graceOf_ownersWith s.heard table]
    rfl

/-- Settles O7: an index outside the table, an empty row and a filled row, each by its answer of `takeErasePolicy`. -/
theorem erasePolicyTurnsOriginsToWritten : Obligations.ErasePolicyTurnsOriginsToWritten := by
  intro s seq i ready service
  have service : configurable s.heard.mgmt.service = true := service
  have taken {t : State} := exec_of_take (c := .erasePolicy seq i) (t := t) rfl ready fun _ => rfl
  refine ⟨fun outside => ?_, fun inside => ?_⟩
  · exact taken (takeErasePolicy_outside service outside) rfl
  rw [← s.policyRow_of_lt inside]
  refine ⟨fun empty => ?_, fun filled => ?_⟩
  · exact taken (takeErasePolicy_empty service inside empty) rfl
  · exact taken (takeErasePolicy_filled service inside filled) rfl

end Sys2Proof.Machine

/-! PROOFS. The grace evaluation line by line (R2, R24), and what SETTLE and RELEASE make of the quota unit (R33, R35), with
the obligations about them. -/

namespace Sys2Proof.Machine

/-! ### The grace minutes in force (R2) -/

theorem State.graceMinutes_written (s : State) {r : OwnerRecord} (h : r.origin = .written) : s.graceMinutes r = 10080 := by
  simp only [State.graceMinutes, h]
  rfl

theorem State.graceMinutes_row (s : State) {r : OwnerRecord} {i : Nat} {row : PolicyRow} (h : r.origin = .row i)
    (filled : s.policyRow i = some row) : s.graceMinutes r = row.graceMinutes := by
  simp only [State.graceMinutes, h, filled]

/-! ### The table of the grace evaluation (R24) -/

section GraceOutcome

variable {r : OwnerRecord} (minute minutes : Nat)

theorem graceOutcome_within (h : r.grace = .within) :
    graceOutcome minute minutes r =
      if r.usage ≤ r.soft then (.within, none)
      else if minutes = 0 then (.expired, some (.graceExpired r.owner r.usage r.soft))
      else (.grace (minuteAfter minute minutes), some (.graceStarted r.owner r.usage (minuteAfter minute minutes))) := by
  simp only [graceOutcome, h]

theorem graceOutcome_grace {d : Nat} (h : r.grace = .grace d) :
    graceOutcome minute minutes r =
      if r.usage ≤ r.soft then (.within, some (.graceEnded r.owner r.usage r.soft)) else (.grace d, none) := by
  simp only [graceOutcome, h]

theorem graceOutcome_expired (h : r.grace = .expired) :
    graceOutcome minute minutes r =
      if r.usage ≤ r.soft then (.within, some (.graceEnded r.owner r.usage r.soft)) else (.expired, none) := by
  simp only [graceOutcome, h]

end GraceOutcome

/-! ### A server link's row (R161, R162) -/

/-- The row of a request that only changes the state comes out, at a ready intake from which it reaches its unit, as that
change leaves it. -/
theorem exec_of_serverTake {c : Instr} {s t : State} {l : Link} {seq : U16} {r : ServerRequest} {f : State → State}
    (arm : exec c s = .next (s.serverRequest l seq r)) (ready : s.linkReady l) (free : isPreserve r = false)
    (reach : reachesUnit r s.mgmt.service = true)
    (take : ∀ w : Work, w.owners = [] → takeRequest l seq r w = w.on f)
    (result : f (s.heardOn l) = t) (keeps : (t.intake l).queue = (s.intake l).queue) : exec c s = .next t := by
  rw [arm, serverRequest_result ready free reach take result keeps]

/-- SETTLE and RELEASE reach the quota unit in every service state but STARTING and LOADING (R33, R35). -/
theorem reachesUnit_settle_release {st : ServiceState} (notStarting : st ≠ .starting) (notLoading : st ≠ .loading) :
    (∀ q, reachesUnit (.settle q) st = true) ∧ ∀ q, reachesUnit (.release q) st = true := by
  cases st with
  | starting => exact absurd rfl notStarting
  | loading => exact absurd rfl notLoading
  | serving | pausing | paused | saving => exact ⟨fun _ => rfl, fun _ => rfl⟩

/-- With no grace evaluation left, none is made before a request is taken (R23). -/
theorem Work.evalOwners_none {w : Work} (h : w.owners = []) : w.evalOwners = w := by
  obtain ⟨st, todo, touched, owners, pool⟩ := w
  simp only at h
  subst h
  rfl

theorem takeRequest_settle (l : Link) (seq : U16) (q : SettleReq) (w : Work) (h : w.owners = []) :
    takeRequest l seq (.settle q) w = w.on (takeSettle l seq q) := by
  simp only [takeRequest, Work.evalOwners_none h]

theorem takeRequest_release (l : Link) (seq : U16) (q : ReleaseReq) (w : Work) (h : w.owners = []) :
    takeRequest l seq (.release q) w = w.on (takeRelease l seq q) := by
  simp only [takeRequest, Work.evalOwners_none h]

/-! ### What notices and answers leave as it was -/

@[simp] theorem State.raiseIf_owner? (b : Option NoticeBody) (s : State) (n : Nat) : (s.raiseIf b).owner? n = s.owner? n := by
  simp only [State.owner?, State.raiseIf_quota]

/-- A change of the quota unit, a notice and an answer leave the requests that wait at a link. -/
theorem State.quotaAnswer_queue (s : State) (l : Link) (seq : U16) (q : Quota) (b : Option NoticeBody) (r : ServerReply) :
    (((({ s.heardOn l with quota := q } : State).raiseIf b).answer l seq r).intake l).queue = (s.intake l).queue := by
  rw [← s.heardOn_queue l]
  simp only [State.intake, State.answer_links, State.raiseIf_links]

@[simp] theorem flagIf_decide (p : Prop) [Decidable p] (bit : Flags) : flagIf (decide p) bit = if p then bit else 0 := by
  simp only [flagIf, decide_eq_true_eq]

/-! ### SETTLE (R33) -/

/-- The record of an owner once a claim of `granted` blocks is closed with `used` of them charged (R32, R33, R38). -/
def OwnerRecord.settled (r : OwnerRecord) (granted used : Nat) : OwnerRecord :=
  { r with reserved := r.reserved - granted, held := sat (r.held + used) }

/-- Closing a claim, as one change of the quota unit and the notice of the one grace evaluation. -/
theorem State.closeClaim_known (s : State) (c : Claim) (used : Nat) {r : OwnerRecord} (known : s.owner? c.owner = some r) :
    let after := graceOutcome s.clock.minute (s.graceMinutes r) (r.settled c.granted used)
    ∃ owners, s.closeClaim c used =
        ({ s with quota :=
          { s.quota with owners := owners, claims := s.quota.claims.filter fun d => d.ticket ≠ c.ticket } }
          : State).raiseIf after.2 ∧
      ownersWith s.quota.owners owners c.owner (some { r.settled c.granted used with grace := after.1 }) := by
  intro after
  let unlisted := s.onQuota fun q => { q with claims := q.claims.filter fun d => d.ticket != c.ticket }
  obtain ⟨owners, evaluated, table, -⟩ :=
    unlisted.onOwner_evalGrace c.owner (·.settled c.granted used) r (fun _ => rfl) (fun _ => rfl) known
  have same : (fun d : Claim => d.ticket != c.ticket) = fun d => decide (d.ticket ≠ c.ticket) := by
    funext d
    exact Bool.eq_iff_iff.mpr (bne_iff_ne.trans decide_eq_true_iff.symm)
  refine ⟨owners, ?_, table⟩
  rw [← same]
  exact evaluated

section Settle

variable {s : State} {l : Link} {seq : U16} {q : SettleReq}

theorem takeSettle_server {c : Claim} {k : Link} {rest : Nat} (h : s.claim? q.ticket.toNat = some c)
    (kind : c.kind = .server k rest) :
    let used := min q.used.toNat c.granted
    let closed := s.closeClaim c used
    takeSettle l seq q s = closed.answer l seq (.settle .settled (if c.granted < q.used.toNat then 1 else 0) c.owner used
      (((closed.owner? c.owner).map (·.held)).getD 0)) := by
  obtain ⟨ticket, owner, granted, _⟩ := c
  subst kind
  simp only [takeSettle, h, flagIf_decide, clampedFlag]

theorem takeSettle_stale (h : ∀ c, s.claim? q.ticket.toNat = some c → c.kind = .restore) :
    takeSettle l seq q s = s.answer l seq (.settle .stale 0 0 0 0) := by
  cases found : s.claim? q.ticket.toNat with
  | none => simp only [takeSettle, found]
  | some c =>
    obtain ⟨ticket, owner, granted, kind⟩ := c
    obtain rfl : kind = .restore := h _ found
    simp only [takeSettle, found]

end Settle

/-! ### RELEASE (R35) -/

section Release

variable {s : State} {l : Link} {seq : U16} {q : ReleaseReq}

theorem takeRelease_badField (h : q.count.toNat = 0 ∨ 16777215 < q.owner.toNat) :
    takeRelease l seq q s = s.answer l seq (.release .badField 0 0) := by
  have bad : q.count.toNat = 0 ∨ ownerNumberOk q.owner = false :=
    h.imp_right fun above => decide_eq_false (Nat.not_le.mpr above)
  simp only [takeRelease, if_pos bad]

variable (counted : 0 < q.count.toNat) (inRange : q.owner.toNat ≤ 16777215)
include counted inRange

theorem release_fields_good : ¬(q.count.toNat = 0 ∨ ownerNumberOk q.owner = false) := by
  rintro (zero | above)
  · exact Nat.ne_of_gt counted zero
  · exact Bool.false_ne_true (above.symm.trans (ownerNumberOk_iff.mpr inRange))

theorem takeRelease_unknown (h : s.owner? q.owner.toNat = none) :
    takeRelease l seq q s = s.answer l seq (.release .unknownOwner 0 0) := by
  simp only [takeRelease, if_neg (release_fields_good counted inRange), h]

theorem takeRelease_known {r : OwnerRecord} (h : s.owner? q.owner.toNat = some r) :
    takeRelease l seq q s =
      ((s.onOwner q.owner.toNat fun r => { r with held := r.held - q.count.toNat }).evalGrace q.owner.toNat).answer l seq
        (.release .released (if r.held < q.count.toNat then 1 else 0) (r.held - q.count.toNat)) := by
  simp only [takeRelease, if_neg (release_fields_good counted inRange), h, flagIf_decide, clampedFlag]

end Release

/-! ### The obligations -/

/-- Settles O5: the grace minutes by the record's origin, and each line of the table from the equation of the grace state
that it starts in. -/
theorem graceEvaluationFollowsTheTable : Obligations.GraceEvaluationFollowsTheTable := by
  intro s r u minutes outcome deadline
  refine ⟨s.graceMinutes_written, fun i row origin filled => ?_, fun within low => ?_, fun within high positive => ?_,
    fun within high zero => ?_, fun d grace low => ?_, fun d grace high => ?_, fun expired low => ?_,
    fun expired high => ?_⟩
  · exact s.graceMinutes_row origin ((s.policyRow_of_lt i.isLt).trans filled)
  · exact (graceOutcome_within _ _ within).trans (if_pos low)
  · exact (graceOutcome_within _ _ within).trans ((if_neg (Nat.not_le.mpr high)).trans (if_neg (Nat.ne_of_gt positive)))
  · exact (graceOutcome_within _ _ within).trans ((if_neg (Nat.not_le.mpr high)).trans (if_pos zero))
  · exact (graceOutcome_grace _ _ grace).trans (if_pos low)
  · exact (graceOutcome_grace _ _ grace).trans (if_neg (Nat.not_le.mpr high))
  · exact (graceOutcome_expired _ _ expired).trans (if_pos low)
  · exact (graceOutcome_expired _ _ expired).trans (if_neg (Nat.not_le.mpr high))

/-- Settles O11: closing the claim is one change of the quota unit with one evaluation (`closeClaim_known`), and the reply
reads the held count from the table that this leaves. -/
theorem settleClosesTheClaim : Obligations.SettleClosesTheClaim := by
  intro s l seq q ready notStarting notLoading
  have taken {t : State} := exec_of_serverTake (c := .settle l seq q) (t := t) rfl ready rfl
    ((reachesUnit_settle_release notStarting notLoading).1 q) (takeRequest_settle l seq q)
  refine ⟨fun c k rest r found kind known => ?_, fun stale => ?_⟩
  · intro used settled after
    have found : (s.heardOn l).claim? q.ticket.toNat = some c := found
    obtain ⟨owners, closed, table⟩ := (s.heardOn l).closeClaim_known c used known
    refine ⟨owners, taken ?_ (s.quotaAnswer_queue l seq _ _ _), table⟩
    have record : (((s.heardOn l).closeClaim c used).owner? c.owner).map (·.held) = some settled.held := by
      rw [closed, State.raiseIf_owner?]
      exact congrArg (Option.map (·.held)) table.1
    rw [takeSettle_server found kind, record, closed]
    rfl
  · exact taken (takeSettle_stale stale) (s.heardOn_queue l)

/-- Settles O12: bad fields, no record and a record, each by its answer of `takeRelease`. -/
theorem releaseLowersHeld : Obligations.ReleaseLowersHeld := by
  intro s l seq q ready notStarting notLoading
  have taken {t : State} := exec_of_serverTake (c := .release l seq q) (t := t) rfl ready rfl
    ((reachesUnit_settle_release notStarting notLoading).2 q) (takeRequest_release l seq q)
  refine ⟨fun bad => ?_, fun counted inRange unknown => ?_, fun r counted inRange known => ?_⟩
  · exact taken (takeRelease_badField bad) (s.heardOn_queue l)
  · exact taken (takeRelease_unknown counted inRange unknown) (s.heardOn_queue l)
  · have known : (s.heardOn l).owner? q.owner.toNat = some r := known
    obtain ⟨owners, evaluated, table, -⟩ := (s.heardOn l).onOwner_evalGrace q.owner.toNat
      (fun r => { r with held := r.held - q.count.toNat }) r (fun _ => rfl) (fun _ => rfl) known
    refine ⟨owners, taken ?_ (s.quotaAnswer_queue l seq _ _ _), table⟩
    rw [takeRelease_known counted inRange known, evaluated]
    rfl

end Sys2Proof.Machine

/-! PROOFS. The newest snapshot of a volume, and the current interval line by line by its state (R48), with the obligation about
them. -/

namespace Sys2Proof.Machine

/-! ### The newest snapshot (R48) -/

/-- The newer of the newest snapshot so far and the next one: the step of `State.newest` (`State.newest_eq_foldl`). -/
def newerOf (best : Option Snapshot) (y : Snapshot) : Option Snapshot :=
  match best with
  | none => some y
  | some b => if b.epoch < y.epoch then some y else some b

theorem State.newest_eq_foldl (s : State) (v : Nat) : s.newest v = (s.snapsOf v).foldl newerOf none := rfl

theorem State.mem_snapsOf {s : State} {v : Nat} {x : Snapshot} : x ∈ s.snapsOf v ↔ x ∈ s.cat.snaps ∧ x.volume = v := by
  simp only [State.snapsOf, List.mem_filter, beq_iff_eq]

theorem newerOf_eq_or (best : Option Snapshot) (y : Snapshot) : newerOf best y = best ∨ newerOf best y = some y := by
  cases best with
  | none => exact .inr rfl
  | some b =>
    by_cases newer : b.epoch < y.epoch
    · exact .inr (if_pos newer)
    · exact .inl (if_neg newer)

/-- A snapshot is the one given, or older. -/
def Snapshot.upTo (x y : Snapshot) : Prop := y = x ∨ y.epoch < x.epoch

theorem newerOf_keeps {x y : Snapshot} (h : x.upTo y) : newerOf (some x) y = some x := by
  have notNewer : ¬x.epoch < y.epoch := by
    obtain rfl | older := h
    · exact Nat.lt_irrefl _
    · exact Nat.lt_asymm older
  exact if_neg notNewer

theorem newerOf_takes {x : Snapshot} {best : Option Snapshot} (h : ∀ b ∈ best, x.upTo b) : newerOf best x = some x := by
  cases best with
  | none => rfl
  | some b =>
    obtain rfl | older := h b rfl
    · exact newerOf_keeps (.inl rfl)
    · exact if_pos older

theorem newerOf_upTo {x y : Snapshot} {best : Option Snapshot} (before : ∀ b ∈ best, x.upTo b) (next : x.upTo y) :
    ∀ b ∈ newerOf best y, x.upTo b := by
  obtain same | taken := newerOf_eq_or best y
  · rwa [same]
  · rw [taken]
    rintro _ ⟨⟩
    exact next

/-- Among snapshots up to `x`, once `x` is met, in the list or before it, the newest is `x`. -/
theorem foldl_newerOf {x : Snapshot} {l : List Snapshot} (upTo : ∀ y ∈ l, x.upTo y) {best : Option Snapshot}
    (before : ∀ b ∈ best, x.upTo b) (met : best = some x ∨ x ∈ l) : l.foldl newerOf best = some x := by
  induction l generalizing best with
  | nil => exact met.resolve_right List.not_mem_nil
  | cons y l ih =>
    obtain ⟨next, rest⟩ := List.forall_mem_cons.mp upTo
    refine ih rest (newerOf_upTo before next) ?_
    obtain rfl | here := met
    · exact .inl (newerOf_keeps next)
    · obtain rfl | later := List.mem_cons.mp here
      · exact .inl (newerOf_takes before)
      · exact .inr later

theorem State.newest_none {s : State} {v : Nat} (h : ∀ x ∈ s.cat.snaps, x.volume ≠ v) : s.newest v = none := by
  have empty : s.snapsOf v = [] := List.eq_nil_iff_forall_not_mem.mpr fun x hx =>
    h x (State.mem_snapsOf.mp hx).1 (State.mem_snapsOf.mp hx).2
  rw [State.newest_eq_foldl, empty, List.foldl_nil]

theorem State.newest_some {s : State} {v : Nat} {x : Snapshot} (mem : x ∈ s.cat.snaps) (vol : x.volume = v)
    (upTo : ∀ y ∈ s.cat.snaps, y.volume = v → x.upTo y) : s.newest v = some x := by
  have upTo : ∀ y ∈ s.snapsOf v, x.upTo y := fun y hy =>
    upTo y (State.mem_snapsOf.mp hy).1 (State.mem_snapsOf.mp hy).2
  exact foldl_newerOf upTo (fun _ h => nomatch h) (.inr (State.mem_snapsOf.mpr ⟨mem, vol⟩))

/-! ### The table of the current interval (R48) -/

theorem State.current_noSnapshot {s : State} {v : Nat} (h : s.newest v = none) : s.current v = .noSnapshot := by
  simp only [State.current, h]

section Newest

variable {s : State} {v : Nat} {x : Snapshot} (newest : s.newest v = some x)
include newest

theorem State.current_opening (h : x.state = .opening) : s.current v = .opening := by
  simp only [State.current, newest, h]

theorem State.current_kept (h : x.kept) : s.current v = .interval x.epoch none := by
  obtain live | retirePending := h
  · simp only [State.current, newest, live]
  · simp only [State.current, newest, retirePending]

section Merging

variable {vol : Volume} {m : Merge} (merging : x.state = .merging) (known : s.volume? v = some vol)
  (merge : vol.merge = some m)
include merging known merge

theorem State.current_merging_target {y : Nat} (h : m.target = some y) : s.current v = .interval y (some x.epoch) := by
  simp only [State.current, newest, merging, known, merge, h, Option.bind_some]

theorem State.current_merging_noTarget (h : m.target = none) : s.current v = .noTarget := by
  simp only [State.current, newest, merging, known, merge, h, Option.bind_some]

end Merging

end Newest

/-! ### The obligation -/

/-- Settles O21: the snapshot of the highest epoch is the one `newest` finds, and each line of the table from the equation of its
state. -/
theorem currentIntervalFollowsTheNewestSnapshot : Obligations.CurrentIntervalFollowsTheNewestSnapshot := by
  intro s v
  refine ⟨fun noneOf => State.current_noSnapshot (State.newest_none noneOf), fun x mem vol highest => ?_⟩
  have newest : s.newest v = some x := State.newest_some mem vol highest
  exact ⟨State.current_opening newest, State.current_kept newest, fun _ _ merging known merge =>
    ⟨fun _ => State.current_merging_target newest merging known merge,
      State.current_merging_noTarget newest merging known merge⟩⟩

end Sys2Proof.Machine
